-- ==== Sys2Proof/Config.lean ====
section
/-! DEFINITION. What is fixed for the part (its identity, R177) and the two free values, for the places where the spec lets
either of two events be taken first and no command decides between them (notes/assumptions/2.md). -/

namespace Sys2Proof.Config

/-- R177: the vendor code that IDENT returns. -/
def vendorCode : Nat := 0x0B17

/-- R177: the part code that IDENT returns. -/
def partCode : Nat := 0x0044

/-- R177: the silicon revision that IDENT returns. -/
def revision : Nat := 1

/-- R177: the number of spouts that IDENT returns. -/
def spoutCount : Nat := 4

/-- FREE VALUE (R48: "either may be taken first"): whether, on a sample that brings a due point and completes a zero step,
the due point is taken first. -/
opaque dueFirst : Nat → Bool

/-- FREE VALUE (R155, R171, R143): which of several conditions that come together is taken next. -/
opaque pick : Nat → Nat

end Sys2Proof.Config
end

