-- ==== Sys2Proof/Word.lean ====
section
/-! DEFINITION. The plainest types of the NB4's model: the byte of a frame, the two fixed numberings (spouts 0 to 3, lanes
0 to 31; spec/00_scope.md, Conventions) and a record that holds one thing for each of the four spouts. -/

namespace Sys2Proof

/-- One byte of a link frame (R159). -/
abbrev Byte := BitVec 8

/-- A run of bytes delimited by the line code; a frame when it is 4 to 40 bytes long (R159). -/
abbrev Run := List Byte

/-- A spout number, 0 to 3. -/
abbrev SpoutId := Fin 4

/-- A lane number, 0 to 31. -/
abbrev LaneId := Fin 32

/-- One value for each of the four spouts. -/
structure PerSpout (α : Type) where
  s0 : α
  s1 : α
  s2 : α
  s3 : α
deriving DecidableEq, Repr

namespace PerSpout

variable {α : Type}

/-- The value of spout `i`. -/
def get (p : PerSpout α) (i : SpoutId) : α :=
  match i with
  | 0 => p.s0
  | 1 => p.s1
  | 2 => p.s2
  | 3 => p.s3

/-- The record with the value of spout `i` replaced. -/
def set (p : PerSpout α) (i : SpoutId) (x : α) : PerSpout α :=
  match i with
  | 0 => { p with s0 := x }
  | 1 => { p with s1 := x }
  | 2 => { p with s2 := x }
  | 3 => { p with s3 := x }

/-- The same value for all four spouts. -/
def all (x : α) : PerSpout α := ⟨x, x, x, x⟩

/-- Every spout's value put through `f`. -/
def map {β : Type} (f : α → β) (p : PerSpout α) : PerSpout β := ⟨f p.s0, f p.s1, f p.s2, f p.s3⟩

end PerSpout

/-- The four spouts in the order of their numbers. -/
def spoutIds : List SpoutId := [0, 1, 2, 3]

end Sys2Proof
end

