-- ==== Sys2Proof/Syntax.lean ====
section
/-! DEFINITION. The commands of the NB4: one constructor for each row of spec/opcode_table.json, with the row's operands.
The NB4 is a block and not a processor: a command is a run of bytes that completes at a port, one of the twenty-eight
requests, a condition of the sample count or of real time, the end of a transmission, or the power-on reset. -/

namespace Sys2Proof

/-- What a REQUEST frame carries beside its code and its parameters (R172): the address byte and the request number. -/
structure ReqHeader where
  address : Byte
  number : Byte
deriving DecidableEq, Repr

/-- The request codes of R185. -/
inductive RequestKind where
  | ident | assign | keepalive | setParam | getParam | status | counters | restart
  | openWindow | writePoints | writeMore | readPoints | readMore | activate
  | mapLane | unmapLane | setChain
  | enqueue | cancel | results
  | proceed | abort | hold | resume | park | unpark | clear | zeroNow
deriving DecidableEq, Repr

/-- The commands of the NB4, in the order of spec/opcode_table.json. A request command is the arrival at the P-port of a
REQUEST frame with that request's code, the given address byte, request number and parameter bytes, and a good CRC. -/
inductive Instr where
  /-- POWER_ON_RESET (R159). -/
  | powerOnReset
  /-- F_PORT_FRAME (R161): a run of bytes completes at the F-port. -/
  | fPortFrame (run : Run)
  /-- SAMPLE_LOSS (R7): a missing sample takes the spout's run above 4. -/
  | sampleLoss (sp : SpoutId)
  /-- STARVATION (R9): the freshness age of the spout's FORCE lane reaches 50 ms. -/
  | starvation (sp : SpoutId)
  /-- LANE_STALE (R148): the freshness age of a GATE, AIR, PROBE or BAY lane reaches 200 ms. -/
  | laneStale (lane : LaneId)
  /-- DUE_POINT (R38): the spout's due counter reaches the due period. -/
  | duePoint (sp : SpoutId)
  /-- STEP_COMPLETE (R41): the samples taken reach the step length, with a last passing sample of this raw value. -/
  | stepComplete (sp : SpoutId) (raw : BitVec 20)
  /-- RETRY_WAIT_END (R46): the spout's retry wait reaches 0. -/
  | retryWaitEnd (sp : SpoutId)
  /-- PACING_POINT (R99): the spout's pacing count reaches 8. -/
  | pacingPoint (sp : SpoutId)
  /-- REPORT_INTERVAL_EXPIRY (R169): the spout's report interval count reaches its setting. -/
  | reportIntervalExpiry (sp : SpoutId)
  /-- FLOOD_DROP (R109): the spout's flood run reaches 8 in COARSE. -/
  | floodDrop (sp : SpoutId)
  /-- FLOOD_CLOSURE (R110): the spout's flood run reaches 400 in FINE. -/
  | floodClosure (sp : SpoutId)
  /-- GATE_STUCK (R113): the spout's stuck-gate run reaches 1200. -/
  | gateStuck (sp : SpoutId)
  /-- AIR_FAIL (R141): the spout's pressure wait reaches 800. -/
  | airFail (sp : SpoutId)
  /-- AIR_LOST (R154): the spout's air-lost run reaches 200. -/
  | airLost (sp : SpoutId)
  /-- TAIL_SETTLED (R87): the spout's settle run reaches the settle count. -/
  | tailSettled (sp : SpoutId)
  /-- TAIL_TIMEOUT (R88): the spout's tail age reaches 4000 without settling. -/
  | tailTimeout (sp : SpoutId)
  /-- SILENCE_EXPIRY (R171): the running silence timer reaches its timeout. -/
  | silenceExpiry
  /-- P_PORT_FRAME (R162): a run of bytes completes at the P-port. -/
  | pPortFrame (run : Run)
  /-- UNKNOWN_REQUEST (R175): a request whose code is not in the table of R185. -/
  | unknownRequest (h : ReqHeader) (code : Byte) (ps : List Byte)
  /-- IDENT (R177). -/
  | ident (h : ReqHeader) (ps : List Byte)
  /-- ASSIGN (R178). -/
  | assign (h : ReqHeader) (ps : List Byte)
  /-- KEEPALIVE (R179). -/
  | keepalive (h : ReqHeader) (ps : List Byte)
  /-- SET_PARAM (R180). -/
  | setParam (h : ReqHeader) (ps : List Byte)
  /-- GET_PARAM (R182). -/
  | getParam (h : ReqHeader) (ps : List Byte)
  /-- STATUS (R183). -/
  | status (h : ReqHeader) (ps : List Byte)
  /-- COUNTERS (R157). -/
  | counters (h : ReqHeader) (ps : List Byte)
  /-- RESTART (R184). -/
  | restart (h : ReqHeader) (ps : List Byte)
  /-- OPEN_WINDOW (R25). -/
  | openWindow (h : ReqHeader) (ps : List Byte)
  /-- WRITE_POINTS (R27). -/
  | writePoints (h : ReqHeader) (ps : List Byte)
  /-- WRITE_MORE (R27). -/
  | writeMore (h : ReqHeader) (ps : List Byte)
  /-- READ_POINTS (R29). -/
  | readPoints (h : ReqHeader) (ps : List Byte)
  /-- READ_MORE (R29). -/
  | readMore (h : ReqHeader) (ps : List Byte)
  /-- ACTIVATE (R30). -/
  | activate (h : ReqHeader) (ps : List Byte)
  /-- MAP_LANE (R149). -/
  | mapLane (h : ReqHeader) (ps : List Byte)
  /-- UNMAP_LANE (R150). -/
  | unmapLane (h : ReqHeader) (ps : List Byte)
  /-- SET_CHAIN (R135). -/
  | setChain (h : ReqHeader) (ps : List Byte)
  /-- ENQUEUE (R118). -/
  | enqueue (h : ReqHeader) (ps : List Byte)
  /-- CANCEL (R128). -/
  | cancel (h : ReqHeader) (ps : List Byte)
  /-- RESULTS (R132). -/
  | results (h : ReqHeader) (ps : List Byte)
  /-- PROCEED (R60). -/
  | proceed (h : ReqHeader) (ps : List Byte)
  /-- ABORT (R68). -/
  | abort (h : ReqHeader) (ps : List Byte)
  /-- HOLD (R63). -/
  | hold (h : ReqHeader) (ps : List Byte)
  /-- RESUME (R66). -/
  | resume (h : ReqHeader) (ps : List Byte)
  /-- PARK (R59). -/
  | park (h : ReqHeader) (ps : List Byte)
  /-- UNPARK (R58). -/
  | unpark (h : ReqHeader) (ps : List Byte)
  /-- CLEAR (R76). -/
  | clear (h : ReqHeader) (ps : List Byte)
  /-- ZERO_NOW (R50). -/
  | zeroNow (h : ReqHeader) (ps : List Byte)
  /-- P_PORT_LINE_FREE (R165): the plant-bound line becomes free. -/
  | pPortLineFree
  /-- F_PORT_LINE_FREE (R166): the field-bound line becomes free. -/
  | fPortLineFree
deriving DecidableEq, Repr

end Sys2Proof
end

