-- ==== Sys2Proof/Decode.lean ====
section
/-! DEFINITION. The reading of codes: the request codes of R185 both ways, and `decodeTableWord`. No row of
spec/opcode_table.json gives a command any bits, so no word spells one. -/

namespace Sys2Proof

/-- The request code of each request (R185). -/
def RequestKind.code : RequestKind → Byte
  | .ident => 0x01
  | .assign => 0x02
  | .keepalive => 0x03
  | .setParam => 0x04
  | .getParam => 0x05
  | .status => 0x06
  | .counters => 0x07
  | .restart => 0x08
  | .openWindow => 0x10
  | .writePoints => 0x11
  | .writeMore => 0x12
  | .readPoints => 0x13
  | .readMore => 0x14
  | .activate => 0x15
  | .mapLane => 0x20
  | .unmapLane => 0x21
  | .setChain => 0x22
  | .enqueue => 0x30
  | .cancel => 0x31
  | .results => 0x32
  | .proceed => 0x40
  | .abort => 0x41
  | .hold => 0x42
  | .resume => 0x43
  | .park => 0x44
  | .unpark => 0x45
  | .clear => 0x46
  | .zeroNow => 0x47

/-- Every request of R185, in the order of its table. -/
def requestKinds : List RequestKind :=
  [.ident, .assign, .keepalive, .setParam, .getParam, .status, .counters, .restart,
   .openWindow, .writePoints, .writeMore, .readPoints, .readMore, .activate,
   .mapLane, .unmapLane, .setChain, .enqueue, .cancel, .results,
   .proceed, .abort, .hold, .resume, .park, .unpark, .clear, .zeroNow]

/-- The request that a code names, or none for an unknown code (R175). -/
def requestKind (code : Byte) : Option RequestKind :=
  requestKinds.find? fun k => k.code == code

/-- The command that a table word spells. No row of spec/opcode_table.json gives bits, so none does. -/
def decodeTableWord (_nbits _w : Nat) : Option Instr := none

end Sys2Proof
end

