-- ==== Sys2Proof/Machine/State.lean ====
section
/-! DEFINITION. The state of the NB4 as plain data, block by block (INVENTORY.md lists every field with its rule), the
reasons a step can stop, and the state right after a power-on reset. -/

namespace Sys2Proof.Machine

/-! ### Names -/

/-- R145: what a mapped lane carries for its spout. -/
inductive Role where
  | force | gate | air | probe | bay
deriving DecidableEq, Repr

/-- R172: the head status of a SAMPLE; status code 3 is taken as HEAD_FAULT. -/
inductive HeadStatus where
  | ok | clipped | headFault
deriving DecidableEq, Repr

/-- R54: the eleven spout states, in the order of their codes (R79). -/
inductive SpoutState where
  | parked | idle | ready | zeroing | armed | awaitAir | coarse | fine | tailing | held | faulted
deriving DecidableEq, Repr

/-- R54: why a spout is HELD. -/
inductive HeldReason where
  | command | bay | air | silence
deriving DecidableEq, Repr

/-- R62: the phase a spout enters when it leaves AWAIT_AIR. -/
inductive Phase where
  | coarse | fine
deriving DecidableEq, Repr

/-- R73: the fault kinds. -/
inductive FaultKind where
  | sampleLoss | gateStuck | airFail
deriving DecidableEq, Repr

/-- R54, R131: how a compartment ended. The spout record never holds FAULT, which only a result carries (R74). -/
inductive EndReason where
  | normal | probe | flood | abort | fault
deriving DecidableEq, Repr

/-- R37: the cadence modes. -/
inductive Cadence where
  | z1 | z2 | z4
deriving DecidableEq, Repr

/-- R36: the kinds of zero step. -/
inductive StepKind where
  | normal | makeup | zeroNow
deriving DecidableEq, Repr

/-- R36: the state a zero step was entered from. -/
inductive Origin where
  | idle | ready
deriving DecidableEq, Repr

/-- R22: the two banks of a spout's curve store. -/
inductive Bank where
  | a | b
deriving DecidableEq, Repr

/-- R22: the statuses of a bank, in the order of their codes (R185). -/
inductive BankStatus where
  | active | standbyUnchecked | standbyValid | pending
deriving DecidableEq, Repr

/-- R134: a spout is a holder of a blower grant, a waiter or neither. -/
inductive AirPlace where
  | neither | waiter | holder
deriving DecidableEq, Repr

/-- R173: the last reset cause. -/
inductive ResetCause where
  | powerOn | restart
deriving DecidableEq, Repr

/-- R168: the nine alert kinds of a spout, in the order of their codes 1 to 9. -/
inductive AlertKind where
  | forceOverrange | flood | zeroRejected | zeroOverdue | curveSwitched | held | fault | compartmentDone | orderRetired
deriving DecidableEq, Repr

/-! ### Records -/

/-- R156, R163: an error counter from 0 to 127 with its overflow flag. -/
structure Counter where
  count : Nat
  overflow : Bool
deriving DecidableEq, Repr

/-- A counter at 0 with its flag clear. -/
def Counter.zero : Counter := ⟨0, false⟩

/-- R168: the mark that stands for an alert of one scope and kind. -/
structure AlertMark where
  pending : Bool
  count : Nat
  detail : Nat
deriving DecidableEq, Repr

/-- A mark with its flag clear. -/
def AlertMark.clear : AlertMark := ⟨false, 0, 0⟩

/-- R1: the state of a metering channel. `none` for `lastSeq` is "unknown". -/
structure Channel where
  lastSeq : Option Byte
  missingRun : Nat
  lastGood : Nat
  /-- The unfiltered flows of the last eight samples, oldest first. -/
  window : List Nat
  filtered : Nat
  acc : Nat
  massG : Nat
  overrange : Bool
  fillMark : Bool
  satMark : Bool
deriving DecidableEq, Repr

/-- R22: a spout's two banks of seventeen points. -/
structure CurveStore where
  bankA : Vector Nat 17
  bankB : Vector Nat 17
  statusA : BankStatus
  statusB : BankStatus
  selected : Bank
  valid : Bool
deriving DecidableEq, Repr

/-- R22: the device's curve window. -/
structure CurveWindow where
  isOpen : Bool
  spout : SpoutId
  bank : Bank
  first : Nat
  last : Nat
  cursor : Nat
deriving DecidableEq, Repr

/-- R36: a zero step in progress, with the length (R37) and the zero band (R40) it began with. -/
structure ZeroStep where
  kind : StepKind
  origin : Origin
  taken : Nat
  sum : Nat
  length : Nat
  band : Nat
deriving DecidableEq, Repr

/-- R36: the state of a zero tracker. -/
structure ZeroTracker where
  zero : Nat
  cadence : Cadence
  dueCount : Nat
  owed : Nat
  stepsDone : Nat
  partialSum : Nat
  makeupOwed : Bool
  makeupDeferred : Bool
  step : Option ZeroStep
  retryWait : Option Nat
  pendingProceed : Bool
  staleZero : Bool
deriving DecidableEq, Repr

/-- R54: the open compartment. -/
structure OpenCompartment where
  tag : Nat
  index : Nat
  targetKg : Nat
deriving DecidableEq, Repr

/-- The spout controller's state: the spout record (R54), the tail data (R80), the gate state (R98), the pressure wait
(R134) and the air-lost run (R154). -/
structure Control where
  state : SpoutState
  heldReason : Option HeldReason
  resumePhase : Option Phase
  faultKind : Option FaultKind
  endReason : Option EndReason
  openComp : Option OpenCompartment
  duration : Nat
  tau : Nat
  ratio : Nat
  gateDemand : Nat
  sentDemand : Nat
  pacing : Nat
  floodRun : Nat
  stuckRun : Nat
  massAtClose : Nat
  flowAtClose : Nat
  tailAge : Nat
  settleRun : Nat
  pressureWait : Option Nat
  airLostRun : Nat
deriving DecidableEq, Repr

/-- R180: the spout parameters that no other record holds (tau is in `Control`, the zero mode in `ZeroTracker`). -/
structure Params where
  span : Nat
  lowCut : Nat
  fineOpening : Nat
  minOpening : Nat
  fineBand : Nat
  rampStep : Nat
  regStep : Nat
  deadband : Nat
  gain : Nat
  floodLimit : Nat
  zeroInterval : Nat
  zeroBand : Nat
  driftLimit : Nat
  airThreshold : Nat
  reportInterval : Nat
  settleCount : Nat
deriving DecidableEq, Repr

/-- R116: an order record. -/
structure Order where
  tag : Nat
  targets : List Nat
  cap : Nat
  flowLimit : Option Nat
  nextIndex : Nat
  aborted : Bool
deriving DecidableEq, Repr

/-- R91, R130: a result record with the result number it was placed under. -/
structure Result where
  number : Byte
  tag : Nat
  index : Nat
  targetKg : Nat
  finalG : Nat
  overshoot : Int
  endReason : EndReason
  zeroStale : Bool
  filled : Bool
  tailTimeout : Bool
  unsettled : Bool
  saturated : Bool
  switchedAtEnd : Bool
  tau : Nat
  duration : Nat
deriving DecidableEq, Repr

/-- Everything the NB4 holds for one spout. -/
structure Spout where
  chan : Channel
  curve : CurveStore
  zero : ZeroTracker
  ctl : Control
  par : Params
  /-- R115: the queue, head order first. -/
  queue : List Order
  /-- R130: the results ring, oldest first. -/
  ring : List Result
  /-- R115: the number the next result record will carry. -/
  resultNumber : Byte
  /-- R134: holder, waiter or neither. -/
  place : AirPlace
  /-- R168: the nine marks, by kind code less 1. -/
  alerts : Vector AlertMark 9
  /-- R169. -/
  reportDue : Bool
  reportCount : Nat
  /-- R106, R107. -/
  gatePending : Bool
  orderSeq : Byte
deriving DecidableEq, Repr

/-- R145: the entry and the lane state of a mapped lane. `age` is the freshness age in ms. The last sequence and the latest
value are kept for the four latest-value roles; on a FORCE lane they stay unknown and 0. -/
structure Lane where
  spout : SpoutId
  role : Role
  forward : Bool
  crc : Counter
  gap : Counter
  dup : Counter
  age : Nat
  stale : Bool
  lastSeq : Option Byte
  latest : Nat
deriving DecidableEq, Repr

/-- A frame in transmission on a line, or a response waiting for one. `isRestart` marks the response to the RESTART that
is pending (R184). -/
structure Outgoing where
  frame : Run
  isRestart : Bool
deriving DecidableEq, Repr

/-- The whole state of the NB4. -/
structure State where
  spouts : PerSpout Spout
  /-- R22: the curve window. -/
  window : CurveWindow
  /-- R134: the grant count and the chain order. -/
  grantCount : Nat
  chain : List SpoutId
  /-- R145: the lane map, one entry for each of the 32 lanes. -/
  lanes : Vector (Option Lane) 32
  /-- R159: the plant-bound pass-through FIFO, oldest first. -/
  plantFifo : List Run
  /-- R173: the response FIFO, oldest first. -/
  respFifo : List Outgoing
  /-- R168: the two DEVICE marks, SILENCE and LINK_OVERRUN. -/
  silenceMark : AlertMark
  overrunMark : AlertMark
  /-- R159: the last spout reported. -/
  lastReported : SpoutId
  /-- R159: the field-bound pass-through FIFO, oldest first. -/
  fieldFifo : List Run
  /-- R163: the four port counters. -/
  crcCount : Counter
  framingCount : Counter
  overrunCount : Counter
  requestOverrunCount : Counter
  /-- R159: the silence setting k, the timer (stopped, or running with its elapsed ms) and the silent flag. -/
  silenceK : Nat
  timer : Option Nat
  silent : Bool
  /-- R173: the device address, 15 while unassigned. -/
  address : Nat
  resetCause : ResetCause
  restartPending : Bool
  /-- R165, R166: what each transmitter is sending, or none while its line stands free. -/
  plantLine : Option Outgoing
  fieldLine : Option Outgoing
  /-- The model's own: the commands that are waiting, first in, first out. -/
  pending : List Instr
  /-- The model's own: how many free values have been read. -/
  freeCount : Nat
deriving DecidableEq, Repr

/-- Why the machine stops with a fault: never. The spec gives every command an effect in every state, so the type has no
constructor (notes/assumptions/1.md); safe. -/
inductive Fault : Type
deriving DecidableEq, Repr

/-- Why a command has no meaning. -/
inductive Refusal where
  /-- Raised by no arm of `exec`: every command has its meaning. It would be safe, the machine stopping where the hardware
  goes on. -/
  | notModelled (mnemonic : String)
deriving DecidableEq, Repr

/-! ### The values after a power-on reset -/

/-- R1, Power-on column. -/
def Channel.reset : Channel where
  lastSeq := none
  missingRun := 0
  lastGood := 0
  window := [0, 0, 0, 0, 0, 0, 0, 0]
  filtered := 0
  acc := 0
  massG := 0
  overrange := false
  fillMark := false
  satMark := false

/-- R22, Power-on column. -/
def CurveStore.reset : CurveStore where
  bankA := Vector.replicate 17 0
  bankB := Vector.replicate 17 0
  statusA := .standbyUnchecked
  statusB := .standbyUnchecked
  selected := .a
  valid := false

/-- R22, Power-on column. -/
def CurveWindow.reset : CurveWindow where
  isOpen := false
  spout := 0
  bank := .a
  first := 0
  last := 0
  cursor := 0

/-- R36, Power-on column. -/
def ZeroTracker.reset : ZeroTracker where
  zero := 0
  cadence := .z2
  dueCount := 0
  owed := 0
  stepsDone := 0
  partialSum := 0
  makeupOwed := false
  makeupDeferred := false
  step := none
  retryWait := none
  pendingProceed := false
  staleZero := false

/-- R54, R80, R98, R134, R154, Power-on columns. -/
def Control.reset : Control where
  state := .parked
  heldReason := none
  resumePhase := none
  faultKind := none
  endReason := none
  openComp := none
  duration := 0
  tau := 400
  ratio := 1000
  gateDemand := 0
  sentDemand := 0
  pacing := 0
  floodRun := 0
  stuckRun := 0
  massAtClose := 0
  flowAtClose := 0
  tailAge := 0
  settleRun := 0
  pressureWait := none
  airLostRun := 0

/-- R180, R181: the defaults are the power-on values. -/
def Params.reset : Params where
  span := 4096
  lowCut := 50
  fineOpening := 250
  minOpening := 80
  fineBand := 800
  rampStep := 40
  regStep := 10
  deadband := 100
  gain := 4
  floodLimit := 0
  zeroInterval := 120
  zeroBand := 4000
  driftLimit := 20000
  airThreshold := 6000
  reportInterval := 200
  settleCount := 80

/-- A spout after a power-on reset (R115, R134, R159 for the fields of no other record). -/
def Spout.reset : Spout where
  chan := Channel.reset
  curve := CurveStore.reset
  zero := ZeroTracker.reset
  ctl := Control.reset
  par := Params.reset
  queue := []
  ring := []
  resultNumber := 0
  place := .neither
  alerts := Vector.replicate 9 AlertMark.clear
  reportDue := false
  reportCount := 0
  gatePending := false
  orderSeq := 0

/-- The NB4 right after a power-on reset: every field at the value its chapter's Power-on column gives, both lines free and
no command waiting. -/
def State.reset : State where
  spouts := PerSpout.all Spout.reset
  window := CurveWindow.reset
  grantCount := 2
  chain := [0, 1, 2, 3]
  lanes := Vector.replicate 32 none
  plantFifo := []
  respFifo := []
  silenceMark := AlertMark.clear
  overrunMark := AlertMark.clear
  lastReported := 3
  fieldFifo := []
  crcCount := Counter.zero
  framingCount := Counter.zero
  overrunCount := Counter.zero
  requestOverrunCount := Counter.zero
  silenceK := 3
  timer := none
  silent := false
  address := 15
  resetCause := .powerOn
  restartPending := false
  plantLine := none
  fieldLine := none
  pending := []
  freeCount := 0

end Sys2Proof.Machine
end

