-- ==== Sys2Proof/Machine/Operands.lean ====
section
/-! DEFINITION. Operand forms: the bytes of a frame read as fields and written from fields (R159, R172, R185), the frame CRC
(R160), the codes that frames carry (R79, R131, R168, R176, R185), and the parameter table with its clamping (R180). -/

namespace Sys2Proof.Machine

/-! ### Bytes -/

/-- The byte that carries a number from 0 to 255. -/
def byte (n : Nat) : Byte := BitVec.ofNat 8 n

/-- R159: a two-byte field, most significant byte first. -/
def be16 (n : Nat) : List Byte := [byte (n / 256), byte n]

/-- R159: a three-byte field, most significant byte first. -/
def be24 (n : Nat) : List Byte := [byte (n / 65536), byte (n / 256), byte n]

/-- R159: a four-byte field, most significant byte first. -/
def be32 (n : Nat) : List Byte := [byte (n / 16777216), byte (n / 65536), byte (n / 256), byte n]

/-- The byte at an offset, as a number. -/
def byteAt (bs : List Byte) (i : Nat) : Nat := (bs.getD i 0).toNat

/-- The two-byte field at an offset. -/
def word16At (bs : List Byte) (i : Nat) : Nat := byteAt bs i * 256 + byteAt bs (i + 1)

/-- The four-byte field at an offset. -/
def word32At (bs : List Byte) (i : Nat) : Nat := word16At bs i * 65536 + word16At bs (i + 2)

/-- A bit of a flag byte: `2 ^ i` when the flag is set. -/
def flagBit (i : Nat) (b : Bool) : Nat := if b then 2 ^ i else 0

/-! ### The CRC -/

/-- R160: the register after one data bit. -/
def crcBit (r : Byte) (d : Bool) : Byte := if r.msb == d then r <<< 1 else (r <<< 1) ^^^ 0x9B

/-- R160: the register after one byte, most significant bit first. -/
def crcByte (r : Byte) (x : Byte) : Byte :=
  crcBit (crcBit (crcBit (crcBit (crcBit (crcBit (crcBit (crcBit r
    (x.getLsbD 7)) (x.getLsbD 6)) (x.getLsbD 5)) (x.getLsbD 4)) (x.getLsbD 3)) (x.getLsbD 2)) (x.getLsbD 1)) (x.getLsbD 0)

/-- R160: the CRC over the bytes of a frame before its CRC. -/
def crcOf (bs : List Byte) : Byte := bs.foldl crcByte 0xFF

/-- A frame from the bytes before its CRC. -/
def sealFrame (bs : List Byte) : Run := bs ++ [crcOf bs]

/-- R160: the last byte equals the CRC over the bytes before it. -/
def goodCrc (run : Run) : Bool := run.getLastD 0 == crcOf run.dropLast

/-! ### Frame types and the fields of arriving frames -/

/-- R172: the type codes. -/
def typeSample : Byte := 0x10
def typeGateOrder : Byte := 0x20
def typeRequest : Byte := 0x30
def typeResponse : Byte := 0x31
def typeReport : Byte := 0x40
def typeAlert : Byte := 0x41

/-- R172: the lane that a lane field names; 32 to 255 name none. -/
def laneOfField (n : Nat) : Option LaneId := if h : n < 32 then some ⟨n, h⟩ else none

/-- The spout that a spout field names; above 3 it names none. -/
def spoutOfField (n : Nat) : Option SpoutId := if h : n < 4 then some ⟨n, h⟩ else none

/-- R172: bits 7 and 6 of the fourth byte of a SAMPLE. -/
def headStatusOf (b : Byte) : HeadStatus :=
  match b.toNat / 64 with
  | 0 => .ok
  | 1 => .clipped
  | _ => .headFault

/-- R172: the 20-bit value of a SAMPLE. -/
def sampleValue (run : Run) : Nat := (byteAt run 3 % 16) * 65536 + word16At run 4

/-- R172: a REQUEST frame with a good CRC, from its header, code and parameters. -/
def requestFrame (h : ReqHeader) (code : Byte) (ps : List Byte) : Run :=
  sealFrame ([typeRequest, h.address, h.number, code, byte ps.length] ++ ps)

/-! ### Codes -/

/-- R79. -/
def SpoutState.code : SpoutState → Nat
  | .parked => 0
  | .idle => 1
  | .ready => 2
  | .zeroing => 3
  | .armed => 4
  | .awaitAir => 5
  | .coarse => 6
  | .fine => 7
  | .tailing => 8
  | .held => 9
  | .faulted => 10

/-- R79, and the detail byte of HELD (R64). -/
def HeldReason.code : HeldReason → Nat
  | .command => 1
  | .bay => 2
  | .air => 3
  | .silence => 4

/-- R79. -/
def Phase.code : Phase → Nat
  | .coarse => 1
  | .fine => 2

/-- R79, and the detail byte of FAULT (R73). -/
def FaultKind.code : FaultKind → Nat
  | .sampleLoss => 1
  | .gateStuck => 2
  | .airFail => 3

/-- R131: also the detail byte of COMPARTMENT_DONE. -/
def EndReason.code : EndReason → Nat
  | .normal => 0
  | .probe => 1
  | .flood => 2
  | .abort => 3
  | .fault => 4

/-- R180: the code of a zero mode. -/
def Cadence.code : Cadence → Nat
  | .z1 => 0
  | .z2 => 1
  | .z4 => 2

/-- R180: a code above 2 is stored as Z4. -/
def cadenceOfCode : Nat → Cadence
  | 0 => .z1
  | 1 => .z2
  | _ => .z4

/-- R185. -/
def Role.code : Role → Nat
  | .force => 0
  | .gate => 1
  | .air => 2
  | .probe => 3
  | .bay => 4

/-- R185. -/
def roleOfCode : Nat → Option Role
  | 0 => some .force
  | 1 => some .gate
  | 2 => some .air
  | 3 => some .probe
  | 4 => some .bay
  | _ => none

/-- R185. -/
def Bank.code : Bank → Nat
  | .a => 0
  | .b => 1

/-- R185. -/
def bankOfCode : Nat → Option Bank
  | 0 => some .a
  | 1 => some .b
  | _ => none

/-- R185. -/
def BankStatus.code : BankStatus → Nat
  | .active => 0
  | .standbyUnchecked => 1
  | .standbyValid => 2
  | .pending => 3

/-- R183: 0 neither, 1 waiter, 2 holder. -/
def AirPlace.code : AirPlace → Nat
  | .neither => 0
  | .waiter => 1
  | .holder => 2

/-- R173. -/
def ResetCause.code : ResetCause → Nat
  | .powerOn => 0
  | .restart => 1

/-- R168: the place of a kind among its spout's nine marks, which is its kind code less 1. -/
def AlertKind.index : AlertKind → Fin 9
  | .forceOverrange => 0
  | .flood => 1
  | .zeroRejected => 2
  | .zeroOverdue => 3
  | .curveSwitched => 4
  | .held => 5
  | .fault => 6
  | .compartmentDone => 7
  | .orderRetired => 8

/-- R168: the nine kinds in the order of their codes. -/
def alertKinds : List AlertKind :=
  [.forceOverrange, .flood, .zeroRejected, .zeroOverdue, .curveSwitched, .held, .fault, .compartmentDone, .orderRetired]

/-- R176: the status codes of responses. -/
inductive Status where
  | ok | okClamped | okNoop
  | refusedState | badSpout | badParam | poolFull | queueFull | tagInUse | noSuchTag
  | curveInvalid | bankActive | notConfigured | laneInUse | roleFilled | windowClosed | unknownRequest
deriving DecidableEq, Repr

/-- R176. -/
def Status.code : Status → Nat
  | .ok => 0
  | .okClamped => 1
  | .okNoop => 2
  | .refusedState => 16
  | .badSpout => 17
  | .badParam => 18
  | .poolFull => 19
  | .queueFull => 20
  | .tagInUse => 21
  | .noSuchTag => 22
  | .curveInvalid => 23
  | .bankActive => 24
  | .notConfigured => 25
  | .laneInUse => 26
  | .roleFilled => 27
  | .windowClosed => 28
  | .unknownRequest => 29

/-- OK, or OK_CLAMPED when a value was moved into its range. -/
def Status.clampedIf (moved : Bool) : Status := if moved then .okClamped else .ok

/-! ### Clamping -/

/-- spec/00_scope.md, "limited to": the nearer end for a value outside the range. -/
def clamp (lo hi n : Nat) : Nat := if n < lo then lo else if hi < n then hi else n

/-- R119: 0 is absent; otherwise 500 to 20,000 fu. -/
def clampFlowLimit (n : Nat) : Option Nat := if n = 0 then none else some (clamp 500 20000 n)

/-- R180: 0 is stored as 0; otherwise 1000 to 20,000 fu. -/
def clampFloodLimit (n : Nat) : Nat := if n = 0 then 0 else clamp 1000 20000 n

/-! ### The parameter table of R180 -/

/-- The two device parameters. -/
inductive DeviceParam where
  | silence | grantCount
deriving DecidableEq, Repr

/-- The eighteen spout parameters. -/
inductive SpoutParam where
  | span | lowCut | fineOpening | minOpening | fineBand | rampStep | regStep | deadband | tau | gain
  | floodLimit | zeroMode | zeroInterval | zeroBand | driftLimit | airThreshold | reportInterval | settleCount
deriving DecidableEq, Repr

/-- R180: the device parameter of a number. -/
def deviceParam : Nat → Option DeviceParam
  | 1 => some .silence
  | 2 => some .grantCount
  | _ => none

/-- R180: the spout parameter of a number. -/
def spoutParam : Nat → Option SpoutParam
  | 16 => some .span
  | 17 => some .lowCut
  | 18 => some .fineOpening
  | 19 => some .minOpening
  | 20 => some .fineBand
  | 21 => some .rampStep
  | 22 => some .regStep
  | 23 => some .deadband
  | 24 => some .tau
  | 25 => some .gain
  | 26 => some .floodLimit
  | 27 => some .zeroMode
  | 28 => some .zeroInterval
  | 29 => some .zeroBand
  | 30 => some .driftLimit
  | 31 => some .airThreshold
  | 32 => some .reportInterval
  | 33 => some .settleCount
  | _ => none

/-- R180: a device parameter's value brought into its range. -/
def DeviceParam.limit : DeviceParam → Nat → Nat
  | .silence => clamp 0 7
  | .grantCount => clamp 1 4

/-- R180: a spout parameter's value brought into its range. -/
def SpoutParam.limit : SpoutParam → Nat → Nat
  | .span => clamp 2048 6144
  | .lowCut => clamp 0 1000
  | .fineOpening => clamp 50 600
  | .minOpening => clamp 0 300
  | .fineBand => clamp 0 5000
  | .rampStep => clamp 5 1000
  | .regStep => clamp 1 100
  | .deadband => clamp 0 2000
  | .tau => clamp 0 4000
  | .gain => clamp 0 16
  | .floodLimit => clampFloodLimit
  | .zeroMode => clamp 0 2
  | .zeroInterval => clamp 10 600
  | .zeroBand => clamp 0 65535
  | .driftLimit => clamp 0 262143
  | .airThreshold => clamp 0 65535
  | .reportInterval => clamp 40 400
  | .settleCount => clamp 20 400

/-- R182: the value of a spout parameter as it stands, the zero mode as its code. -/
def SpoutParam.value (q : SpoutParam) (p : Spout) : Nat :=
  match q with
  | .span => p.par.span
  | .lowCut => p.par.lowCut
  | .fineOpening => p.par.fineOpening
  | .minOpening => p.par.minOpening
  | .fineBand => p.par.fineBand
  | .rampStep => p.par.rampStep
  | .regStep => p.par.regStep
  | .deadband => p.par.deadband
  | .tau => p.ctl.tau
  | .gain => p.par.gain
  | .floodLimit => p.par.floodLimit
  | .zeroMode => p.zero.cadence.code
  | .zeroInterval => p.par.zeroInterval
  | .zeroBand => p.par.zeroBand
  | .driftLimit => p.par.driftLimit
  | .airThreshold => p.par.airThreshold
  | .reportInterval => p.par.reportInterval
  | .settleCount => p.par.settleCount

/-- R182: the value of a device parameter as it stands. -/
def DeviceParam.value (q : DeviceParam) (s : State) : Nat :=
  match q with
  | .silence => s.silenceK
  | .grantCount => s.grantCount

end Sys2Proof.Machine
end

