-- ==== Sys2Proof/Machine/Ops.lean ====
section
/-! DEFINITION. The named operations that every meaning is built from: reading and changing one spout's record, one lane's
entry, the error counters, the alert marks and the pass-through FIFOs; which states a spout may be in when; and every change
of a spout's state (R56). -/

namespace Sys2Proof.Machine

/-! ### One spout, one lane -/

/-- The record of one spout. -/
def State.spout (s : State) (i : SpoutId) : Spout := s.spouts.get i

/-- The state with one spout's record changed. -/
def State.upd (s : State) (i : SpoutId) (f : Spout → Spout) : State :=
  { s with spouts := s.spouts.set i (f (s.spouts.get i)) }

/-- The entry of one lane (R145). -/
def State.lane (s : State) (l : LaneId) : Option Lane := s.lanes[l]

/-- The state with one lane's entry written. -/
def State.setLane (s : State) (l : LaneId) (e : Option Lane) : State := { s with lanes := s.lanes.set l e }

/-- The state with one lane's entry changed, if it has one. -/
def State.updLane (s : State) (l : LaneId) (f : Lane → Lane) : State := s.setLane l ((s.lane l).map f)

/-- Whether an entry is there and feeds this role of this spout. -/
def feeds (i : SpoutId) (r : Role) (e : Option Lane) : Bool :=
  match e with
  | some e => e.spout == i && e.role == r
  | none => false

/-- The lane mapped to a role of a spout (R149: there is at most one). -/
def State.laneOf (s : State) (i : SpoutId) (r : Role) : Option LaneId :=
  (List.finRange 32).find? fun l => feeds i r (s.lane l)

/-- R150: a spout has samples only while a lane is mapped to its FORCE role. -/
def State.hasSamples (s : State) (i : SpoutId) : Bool := (s.laneOf i .force).isSome

/-- The entry and lane state of the lane mapped to a role of a spout. -/
def State.roleLane (s : State) (i : SpoutId) (r : Role) : Option Lane := (s.laneOf i r).bind s.lane

/-! ### Counters and alerts -/

/-- R156, R163: one error counted. -/
def Counter.bump (c : Counter) : Counter := if c.count < 127 then { c with count := c.count + 1 } else ⟨127, true⟩

/-- R156: `n` errors counted one after another. -/
def Counter.bumpBy : Nat → Counter → Counter
  | 0, c => c
  | n + 1, c => Counter.bumpBy n c.bump

/-- R168: one occurrence of an alert. -/
def AlertMark.occur (m : AlertMark) (detail : Nat) : AlertMark :=
  if m.pending then ⟨true, min 15 (m.count + 1), detail⟩ else ⟨true, 1, detail⟩

/-- R168: the transmitter takes a mark: the flag is cleared and the count set to 0; the detail byte stays as stored. -/
def AlertMark.taken (m : AlertMark) : AlertMark := { m with pending := false, count := 0 }

/-- A spout's record with one of its alerts raised. -/
def Spout.raise (k : AlertKind) (detail : Nat) (p : Spout) : Spout :=
  { p with alerts := p.alerts.set k.index (p.alerts[k.index].occur detail) }

/-- R168: a spout alert is raised. -/
def raise (i : SpoutId) (k : AlertKind) (detail : Nat) (s : State) : State := s.upd i (Spout.raise k detail)

/-- R168, R171: SILENCE is raised. -/
def raiseSilence (detail : Nat) (s : State) : State := { s with silenceMark := s.silenceMark.occur detail }

/-- R164, R167: LINK_OVERRUN is raised. -/
def raiseOverrun (detail : Nat) (s : State) : State := { s with overrunMark := s.overrunMark.occur detail }

/-- R161, R162: a framing error or a malformed frame is counted. -/
def countFraming (s : State) : State := { s with framingCount := s.framingCount.bump }

/-- R162: a request discarded for a bad CRC is counted. -/
def countCrc (s : State) : State := { s with crcCount := s.crcCount.bump }

/-- R167: a request that finds the response FIFO full is counted, and LINK_OVERRUN is raised with detail 3. -/
def requestOverrun (s : State) : State :=
  raiseOverrun 3 { s with requestOverrunCount := s.requestOverrunCount.bump }

/-! ### Pass-through FIFOs -/

/-- R164: a frame joins the plant-bound FIFO of 24 frames, or is dropped. -/
def passToPlant (run : Run) (s : State) : State :=
  if s.plantFifo.length < 24 then { s with plantFifo := s.plantFifo ++ [run] }
  else raiseOverrun 1 { s with overrunCount := s.overrunCount.bump }

/-- R164: a frame joins the field-bound FIFO of 16 frames, or is dropped. -/
def passToField (run : Run) (s : State) : State :=
  if s.fieldFifo.length < 16 then { s with fieldFifo := s.fieldFifo ++ [run] }
  else raiseOverrun 2 { s with overrunCount := s.overrunCount.bump }

/-! ### Spout states -/

/-- R56: the states with a compartment open. -/
def SpoutState.compartmentOpen : SpoutState → Bool
  | .armed | .awaitAir | .coarse | .fine | .tailing | .held => true
  | .parked | .idle | .ready | .zeroing | .faulted => false

/-- R56: the gate is open in COARSE and FINE. -/
def SpoutState.gateOpen : SpoutState → Bool
  | .coarse | .fine => true
  | .parked | .idle | .ready | .zeroing | .armed | .awaitAir | .tailing | .held | .faulted => false

/-- R112: the states in which the stuck-gate run stays at 0. -/
def SpoutState.stuckExempt : SpoutState → Bool
  | .parked | .coarse | .fine | .faulted => true
  | .idle | .ready | .zeroing | .armed | .awaitAir | .tailing | .held => false

/-- The state a resume phase names. -/
def Phase.state : Phase → SpoutState
  | .coarse => .coarse
  | .fine => .fine

/-- The state an origin names. -/
def Origin.state : Origin → SpoutState
  | .idle => .idle
  | .ready => .ready

/-- The spout state. -/
def Spout.state (p : Spout) : SpoutState := p.ctl.state

/-- A spout's record after a change of its state: report-due is set (R56), and an entry to PARKED, COARSE, FINE or FAULTED
sets the stuck-gate run to 0 (R112). -/
def Spout.enter (st : SpoutState) (p : Spout) : Spout :=
  { p with
    reportDue := true
    ctl := { p.ctl with state := st, stuckRun := if st.stuckExempt then 0 else p.ctl.stuckRun } }

/-- R56: a spout changes its state. -/
def enter (i : SpoutId) (st : SpoutState) (s : State) : State := s.upd i (Spout.enter st)

/-- R106: a spout's gate-order-pending flag is set. -/
def Spout.orderGate (p : Spout) : Spout := { p with gatePending := true }

/-- R77 and the readings of chapters 3 and 6: the latest GATE value of a spout, with whether its lane is stale. Every spout
outside PARKED has a GATE lane (R58); without one the position reads as 0 and stale. -/
def State.gate (s : State) (i : SpoutId) : Nat × Bool :=
  match s.roleLane i .gate with
  | some e => (e.latest, e.stale)
  | none => (0, true)

/-- R76: the gate reads shut. -/
def State.gateReadsShut (s : State) (i : SpoutId) : Bool := (s.gate i).1 ≤ 50 && !(s.gate i).2

/-- R140: the air pressure has reached the spout's threshold. -/
def State.airReached (s : State) (i : SpoutId) : Bool :=
  match s.roleLane i .air with
  | some e => (s.spout i).par.airThreshold ≤ e.latest && !e.stale
  | none => false

/-- R151: the bay permissive. -/
def State.bayPermissive (s : State) (i : SpoutId) : Bool :=
  match s.roleLane i .bay with
  | some e => e.latest == 1 && !e.stale
  | none => true

/-- R151: the probe is clear. -/
def State.probeClear (s : State) (i : SpoutId) : Bool :=
  match s.roleLane i .probe with
  | some e => e.latest == 0 && !e.stale
  | none => true

/-- R151: all three permissives hold. -/
def State.permitted (s : State) (i : SpoutId) : Bool := s.bayPermissive i && s.probeClear i && !s.silent

/-- R58: the test that UNPARK and the wake of ENQUEUE apply. -/
def State.configured (s : State) (i : SpoutId) : Bool :=
  (s.spout i).curve.valid && (s.laneOf i .force).isSome && (s.laneOf i .gate).isSome && (s.laneOf i .air).isSome

/-! ### The order in which events that come together are taken -/

/-- Several conditions that come together are taken one after another, in an order that a free value picks (R155, R171: either
may be taken first). `fuel` is the number of conditions. -/
def inFreeOrder {α : Type} (act : α → State → State) : Nat → List α → State → State
  | 0, _, s => s
  | fuel + 1, xs, s =>
    match xs with
    | [] => s
    | [x] => act x s
    | x :: y :: rest =>
      let k := Config.pick s.freeCount % (rest.length + 2)
      let t := act ((x :: y :: rest).getD k x) { s with freeCount := s.freeCount + 1 }
      inFreeOrder act fuel ((x :: y :: rest).eraseIdx k) t

end Sys2Proof.Machine
end

