-- ==== Sys2Proof/Machine/Gate.lean ====
section
/-! DEFINITION. Gate demand (chapter 6: R100 to R105), blower grants (chapter 8: R137 to R142) and the permissives that take a
spout from ARMED to AWAIT_AIR (R151). -/

namespace Sys2Proof.Machine

/-! ### Demand -/

/-- R101: the demand a spout aims at. The cap is the head order's, which is the open compartment's order (R123). -/
def Spout.aim (p : Spout) : Nat :=
  match p.ctl.state with
  | .coarse => (match p.queue with | o :: _ => o.cap | [] => 0) * p.ctl.ratio / 1000
  | .fine => p.par.fineOpening
  | .parked | .idle | .ready | .zeroing | .armed | .awaitAir | .tailing | .held | .faulted => 0

/-- R102, step 2: one ramp step from `sent` toward `aim`. -/
def rampToward (step aim sent : Nat) : Nat :=
  if sent < aim then min (sent + step) aim else max (sent - step) aim

/-- R102: the demand update: the gate demand, the ramp, the floor. -/
def Spout.demandUpdate (p : Spout) : Spout :=
  { p with ctl := { p.ctl with
      gateDemand := p.aim
      sentDemand := max (rampToward p.par.rampStep p.aim p.ctl.sentDemand) p.par.minOpening } }

/-- R100: whether the regulator steps, and the ratio after it. -/
def Spout.regulate (p : Spout) : Spout :=
  match p.queue with
  | { flowLimit := some limit, .. } :: _ =>
    if p.ctl.state = .coarse then
      let ratio :=
        if limit + p.par.deadband < p.chan.filtered then p.ctl.ratio - p.par.regStep
        else if p.chan.filtered + p.par.deadband < limit then min 1000 (p.ctl.ratio + p.par.regStep)
        else p.ctl.ratio
      { p with ctl := { p.ctl with ratio := ratio } }
    else p
  | _ => p

/-- R105: a move out of COARSE or FINE shuts the gate; any other move leaves the demand as it stands. -/
def Spout.shutGate (p : Spout) : Spout :=
  if p.ctl.state.gateOpen then
    { p with
      gatePending := true
      ctl := { p.ctl with gateDemand := 0, sentDemand := 0, floodRun := 0, airLostRun := 0 } }
  else p

/-- R103: what entry to COARSE or FINE from AWAIT_AIR does: the spout enters its resume phase, the flood run (R103) and the
air-lost run (R154) are set to 0, the pressure wait becomes none (R140), the demand is updated without a regulator step and
the gate order is set pending. -/
def Spout.openGate (p : Spout) : Spout :=
  let q := p.enter (p.ctl.resumePhase.getD .coarse).state
  ({ q with ctl := { q.ctl with floodRun := 0, airLostRun := 0, pressureWait := none } }).demandUpdate.orderGate

/-! ### Grants -/

/-- How many spouts hold a grant. -/
def State.holders (s : State) : Nat := (spoutIds.filter fun i => (s.spout i).place == .holder).length

/-- R138: the waiter that stands earliest in the chain order. -/
def State.firstWaiter (s : State) : Option SpoutId := s.chain.find? fun i => (s.spout i).place == .waiter

/-- R140: for a spout in AWAIT_AIR that holds a grant, the pressure is examined, and at the threshold the spout enters its
resume phase. -/
def examinePressure (i : SpoutId) (s : State) : State :=
  if (s.spout i).ctl.state = .awaitAir ∧ (s.spout i).place = .holder ∧ s.airReached i then s.upd i Spout.openGate else s

/-- R139, steps 1 and 2: the aerate flag becomes set, the gate order is pending and the pressure wait starts. -/
def Spout.takeGrant (p : Spout) : Spout :=
  { p with place := .holder, gatePending := true, ctl := { p.ctl with pressureWait := some 0 } }

/-- R139: a spout receives a grant. -/
def grantTo (i : SpoutId) (s : State) : State := examinePressure i (s.upd i Spout.takeGrant)

/-- R138: a grant decision, as at most `fuel` grants. Each grant turns a waiter into a holder, so four suffice. -/
def decideGrants : Nat → State → State
  | 0, s => s
  | fuel + 1, s =>
    if s.holders < s.grantCount then
      match s.firstWaiter with
      | some i => decideGrants fuel (grantTo i s)
      | none => s
    else s

/-- R138: a grant decision. -/
def grantDecision (s : State) : State := decideGrants 4 s

/-- R142: what a spout gives up: a grant, with its pressure wait, or a waiter place. -/
def Spout.giveUpAir (p : Spout) : Spout :=
  match p.place with
  | .neither => p
  | .waiter => { p with place := .neither }
  | .holder => { p with place := .neither, gatePending := true, ctl := { p.ctl with pressureWait := none } }

/-- R142: a spout's grant, or its place among the waiters, is released; a freed grant is decided afresh. -/
def releaseAir (i : SpoutId) (s : State) : State :=
  let t := s.upd i Spout.giveUpAir
  if (s.spout i).place = .holder then grantDecision t else t

/-! ### From ARMED to AWAIT_AIR -/

/-- R137: a spout is added to the waiters. -/
def Spout.becomeWaiter (p : Spout) : Spout := { p with place := .waiter }

/-- R137: a spout in AWAIT_AIR asks for a grant. -/
def askForAir (i : SpoutId) (s : State) : State := grantDecision (s.upd i Spout.becomeWaiter)

/-- R151: the permissives of a spout in ARMED are examined. -/
def examineArmed (i : SpoutId) (s : State) : State :=
  if (s.spout i).ctl.state = .armed ∧ s.permitted i then askForAir i (enter i .awaitAir s) else s

/-- R170: a spout in ARMED whose permissives hold, at the clearing of the silent flag. -/
def State.releasable (s : State) (i : SpoutId) : Bool := (s.spout i).ctl.state == .armed && s.permitted i

/-- R170: a spout enters AWAIT_AIR and is added to the waiters, with no decision yet. -/
def joinWaiters (i : SpoutId) (s : State) : State :=
  (enter i .awaitAir s).upd i Spout.becomeWaiter

/-- R170: the silent flag is cleared; the spouts in ARMED whose permissives then hold enter AWAIT_AIR together, and one grant
decision is made. -/
def clearSilent (s : State) : State :=
  let t := { s with silent := false }
  match spoutIds.filter t.releasable with
  | [] => t
  | is => grantDecision (is.foldl (fun u i => joinWaiters i u) t)

end Sys2Proof.Machine
end

