-- ==== Sys2Proof/Machine/Zero.lean ====
section
/-! DEFINITION. Zero tracking (chapter 3): entry to ZEROING, steps and their abandonment, due points. What a completed step
does stands in Compartment.lean, because a make-up set may open a compartment. -/

namespace Sys2Proof.Machine

/-- R37: steps per set. -/
def Cadence.stepsPerSet : Cadence → Nat
  | .z1 => 1
  | .z2 => 2
  | .z4 => 4

/-- R37: the length of a step of a kind. -/
def stepLength (c : Cadence) : StepKind → Nat
  | .normal => 256 / c.stepsPerSet
  | .makeup => 256
  | .zeroNow => 256

/-- R38: the due period in samples. -/
def Spout.duePeriod (p : Spout) : Nat := p.par.zeroInterval * 400 / p.zero.cadence.stepsPerSet

/-- R41, R42, R48, R50: the mean of 256 raw values, halves rounded up. -/
def candidateZero (sum : Nat) : Nat := (sum + 128) / 256

/-- The distance between two counts, without sign. -/
def distance (a b : Nat) : Nat := (a - b) + (b - a)

/-- R40: a step of a kind begins, and the spout goes to ZEROING from its origin. -/
def Spout.startStep (k : StepKind) (p : Spout) : Spout :=
  { p.enter .zeroing with zero := { p.zero with
      step := some
        { kind := k
          origin := if p.ctl.state = .ready then .ready else .idle
          taken := 0
          sum := 0
          length := stepLength p.zero.cadence k
          band := p.par.zeroBand } } }

/-- R40: whether the spout enters ZEROING. -/
def Spout.zeroingDue (p : Spout) : Bool :=
  (p.ctl.state == .idle || p.ctl.state == .ready) && p.zero.retryWait.isNone && (p.zero.makeupOwed || 0 < p.zero.owed)

/-- R40: the entry condition of ZEROING is examined. -/
def Spout.examineZeroing (p : Spout) : Spout :=
  if p.zeroingDue then p.startStep (if p.zero.makeupOwed then .makeup else .normal) else p

/-- R40: the entry condition of ZEROING is examined. -/
def examineZeroing (i : SpoutId) (s : State) : State := s.upd i Spout.examineZeroing

/-- The step ends and the spout returns to its origin. -/
def Spout.endStep (p : Spout) : Spout :=
  match p.zero.step with
  | some st => { p.enter st.origin.state with zero := { p.zero with step := none } }
  | none => p

/-- R43: a step is abandoned by a failing sample, a missing sample or starvation: the spout returns to its origin and a retry
wait of 400 samples starts. -/
def Spout.abandonStep (p : Spout) : Spout :=
  match p.zero.step with
  | some _ => let q := p.endStep
              { q with zero := { q.zero with retryWait := some 400 } }
  | none => p

/-- R43: a zero step in progress is abandoned. -/
def abandonStep (i : SpoutId) (s : State) : State := s.upd i Spout.abandonStep

/-- R39: a due point's effect on the owed count. -/
def Spout.oweStep (p : Spout) : Spout :=
  { p with zero := { p.zero with dueCount := 0, owed := min 8 (p.zero.owed + 1) } }

/-- R39: the detail byte of ZERO_OVERDUE. -/
def Spout.overdueDetail (p : Spout) : Nat := if p.ctl.state.compartmentOpen then 1 else 0

/-- R38, R39: a due point: the counter returns to 0, one step is owed, the count's rise from 7 to 8 raises ZERO_OVERDUE, and
R40 is examined. -/
def duePoint (i : SpoutId) (s : State) : State :=
  let t := s.upd i Spout.oweStep
  examineZeroing i (if (s.spout i).zero.owed = 7 then raise i .zeroOverdue (s.spout i).overdueDetail t else t)

/-- R38: whether the next sample brings a due point. -/
def Spout.dueReached (p : Spout) : Bool := p.ctl.state != .parked && p.duePeriod ≤ p.zero.dueCount + 1

/-- R38: the due counter rises by one. -/
def Spout.tickDue (p : Spout) : Spout := { p with zero := { p.zero with dueCount := p.zero.dueCount + 1 } }

/-- R38: a sample's effect on the due counter. -/
def countDue (i : SpoutId) (s : State) : State :=
  if (s.spout i).dueReached then duePoint i s
  else if (s.spout i).ctl.state = .parked then s
  else s.upd i Spout.tickDue

/-- R46: whether the next sample ends the retry wait. -/
def Spout.retryEnds (p : Spout) : Bool :=
  match p.zero.retryWait with
  | some n => n ≤ 1
  | none => false

/-- R46: the retry wait ends. -/
def Spout.endRetry (p : Spout) : Spout := { p with zero := { p.zero with retryWait := none } }

/-- R46: a running retry wait is one sample shorter. -/
def Spout.tickRetry (p : Spout) : Spout := { p with zero := { p.zero with retryWait := p.zero.retryWait.map (· - 1) } }

/-- R46: the retry wait ends, and R40 is examined. -/
def endRetryWait (i : SpoutId) (s : State) : State :=
  examineZeroing i (s.upd i Spout.endRetry)

/-- R46: a sample's effect on a retry wait. -/
def countRetry (i : SpoutId) (s : State) : State :=
  if (s.spout i).retryEnds then endRetryWait i s
  else s.upd i Spout.tickRetry

/-- R41: whether a good sample passes the step's test. -/
def State.stepPasses (s : State) (i : SpoutId) (st : ZeroStep) (raw : Nat) (hs : HeadStatus) : Bool :=
  hs == .ok && ((s.gate i).1 ≤ 20 && !(s.gate i).2) &&
    (st.kind != .normal || distance raw (s.spout i).zero.zero ≤ st.band)

/-- R47: the zero tracker's part of UNPARK and of the wake by ENQUEUE. -/
def ZeroTracker.unpark (z : ZeroTracker) : ZeroTracker :=
  { z with stepsDone := 0, partialSum := 0, makeupOwed := true, dueCount := 0 }

/-- R50: a step of kind ZERO_NOW, or MAKEUP when make-up is owed. -/
def Spout.zeroNow (p : Spout) : Spout :=
  if p.zero.makeupOwed then
    ({ p with zero := { p.zero with retryWait := none } }).startStep .makeup
  else
    ({ p with zero := { p.zero with retryWait := none, stepsDone := 0, partialSum := 0 } }).startStep .zeroNow

end Sys2Proof.Machine
end

