-- ==== Sys2Proof/Machine/Compartment.lean ====
section
/-! DEFINITION. The loading cycle's moves: opening a compartment (R61), entry to HELD (R64), TAILING (R67) and FAULTED (R73),
recording a result (R90) with the curve exchange (R31, R33) and the learning of tau (R93 to R95), moving on (R72) and
retirement (R125), and the completion of a zero step (R41, R42, R48, R50), which may open a compartment. -/

namespace Sys2Proof.Machine

/-! ### Curve banks -/

/-- The other bank. -/
def Bank.other : Bank → Bank
  | .a => .b
  | .b => .a

/-- R22: the points of a bank. -/
def CurveStore.points (c : CurveStore) : Bank → Vector Nat 17
  | .a => c.bankA
  | .b => c.bankB

/-- R22: the status of a bank. -/
def CurveStore.status (c : CurveStore) : Bank → BankStatus
  | .a => c.statusA
  | .b => c.statusB

/-- A bank's status written. -/
def CurveStore.setStatus (c : CurveStore) (b : Bank) (st : BankStatus) : CurveStore :=
  match b with
  | .a => { c with statusA := st }
  | .b => { c with statusB := st }

/-- A bank's points written. -/
def CurveStore.setPoints (c : CurveStore) (b : Bank) (v : Vector Nat 17) : CurveStore :=
  match b with
  | .a => { c with bankA := v }
  | .b => { c with bankB := v }

/-- The standby bank: the one that is not selected. -/
def CurveStore.standby (c : CurveStore) : Bank := c.selected.other

/-- R32: an exchange is pending. -/
def CurveStore.exchangePending (c : CurveStore) : Bool := c.status c.standby == .pending

/-- R31, R33: an exchange of banks. -/
def CurveStore.exchange (c : CurveStore) : CurveStore :=
  let old : BankStatus := if c.valid then .standbyValid else .standbyUnchecked
  { (c.setStatus c.standby .active).setStatus c.selected old with selected := c.standby, valid := true }

/-- R35: the detail byte of CURVE_SWITCHED for an exchange that selects a bank. -/
def switchedDetail (selected : Bank) (atEnd : Bool) : Nat := selected.code + if atEnd then 2 else 0

/-! ### Learning tau -/

/-- R94: the measured in-flight time. -/
def tauMeasured (finalG massAtClose flowAtClose : Nat) : Nat :=
  min 4000 ((2 * ((finalG - massAtClose) * 40) + flowAtClose) / (2 * flowAtClose))

/-- R95: a quotient by 16, rounded to the nearest integer with halves away from zero. -/
def roundSixteenths (x : Int) : Int := if 0 ≤ x then (x + 8) / 16 else -((-x + 8) / 16)

/-- R95: the new tau. -/
def tauCorrected (tau measured gain : Nat) : Nat :=
  clamp 0 4000 (((tau : Int) + roundSixteenths (((measured : Int) - tau) * gain)).toNat)

/-- R93: whether a tail is learned from. -/
def Spout.learns (p : Spout) (er : EndReason) (timedOut : Bool) : Bool :=
  er == .normal && !timedOut && 500 ≤ p.ctl.flowAtClose

/-- R93 to R95: tau after the recording at the end of a tail. -/
def Spout.tauAfterTail (p : Spout) (er : EndReason) (timedOut : Bool) : Nat :=
  if p.learns er timedOut then
    tauCorrected p.ctl.tau (tauMeasured p.chan.massG p.ctl.massAtClose p.ctl.flowAtClose) p.par.gain
  else p.ctl.tau

/-! ### Recording a result -/

/-- R90: the three ways a compartment comes to its recording. -/
inductive RecordPath where
  /-- R87, R88: at the end of a tail, settled or timed out. -/
  | tail (timedOut : Bool)
  /-- R68: ABORT in ARMED or AWAIT_AIR. -/
  | aborted
  /-- R74: fault entry. -/
  | faulted
deriving DecidableEq, Repr

/-- R91: the end reason that the record carries. -/
def RecordPath.endReason (path : RecordPath) (p : Spout) : EndReason :=
  match path with
  | .tail _ => p.ctl.endReason.getD .normal
  | .aborted => .abort
  | .faulted => .fault

/-- R90, step 5: tau after the recording. -/
def RecordPath.tau (path : RecordPath) (p : Spout) : Nat :=
  match path with
  | .tail timedOut => p.tauAfterTail (path.endReason p) timedOut
  | .aborted => p.ctl.tau
  | .faulted => p.ctl.tau

/-- R91: the result record of the open compartment. -/
def Spout.result (p : Spout) (c : OpenCompartment) (path : RecordPath) : Result :=
  { number := p.resultNumber
    tag := c.tag
    index := c.index
    targetKg := c.targetKg
    finalG := p.chan.massG
    overshoot := (p.chan.massG : Int) - (c.targetKg : Int) * 1000
    endReason := path.endReason p
    zeroStale := p.zero.staleZero
    filled := p.chan.fillMark
    tailTimeout := path == .tail true
    unsettled := path == .faulted
    saturated := p.chan.satMark
    switchedAtEnd := p.curve.exchangePending
    tau := path.tau p
    duration := p.ctl.duration }

/-- R130: a record placed at the newest end of the ring of eight. -/
def placeResult (ring : List Result) (r : Result) : List Result :=
  if ring.length < 8 then ring ++ [r] else ring.drop (ring.length - 7) ++ [r]

/-- R90, steps 1 to 5 and 7. -/
def Spout.closeCompartment (p : Spout) (c : OpenCompartment) (path : RecordPath) : Spout :=
  { p with
    ring := placeResult p.ring (p.result c path)
    resultNumber := p.resultNumber + 1
    curve := if p.curve.exchangePending then p.curve.exchange else p.curve
    zero := { p.zero with
      makeupOwed := p.zero.makeupOwed || p.zero.makeupDeferred
      makeupDeferred := false }
    ctl := { p.ctl with
      tau := path.tau p
      openComp := none
      endReason := none
      resumePhase := none
      massAtClose := 0
      flowAtClose := 0
      tailAge := 0
      settleRun := 0 } }

/-- R33, step 4: CURVE_SWITCHED when a pending exchange completes. -/
def Spout.raiseSwitchAtEnd (p : Spout) (before : Spout) : Spout :=
  if before.curve.exchangePending then p.raise .curveSwitched (switchedDetail before.curve.standby true) else p

/-- R90: the recording of the open compartment's result, with CURVE_SWITCHED (R33) and COMPARTMENT_DONE (R131). -/
def Spout.recordResult (path : RecordPath) (p : Spout) : Spout :=
  match p.ctl.openComp with
  | none => p
  | some c => ((p.closeCompartment c path).raiseSwitchAtEnd p).raise .compartmentDone (path.endReason p).code

/-! ### Moving on -/

/-- R116: the order has compartments left. -/
def Order.hasLeft (o : Order) : Bool := o.nextIndex ≤ o.targets.length

/-- R125: the head order is retired, with the detail byte of ORDER_RETIRED. -/
def Spout.retireHead (detail : Nat) (p : Spout) : Spout :=
  { p with queue := p.queue.tail }.raise .orderRetired detail

/-- The pending proceed mark is cleared (R47). -/
def Spout.clearProceed (p : Spout) : Spout := { p with zero := { p.zero with pendingProceed := false } }

/-- R126: READY with a head order, or IDLE with an empty queue; R40 is examined there. -/
def Spout.settle (p : Spout) : Spout :=
  (p.enter (if p.queue.isEmpty then .idle else .ready)).examineZeroing

/-- R72: the spout moves on. -/
def Spout.moveOn (p : Spout) : Spout :=
  match p.queue with
  | [] => p.settle
  | o :: _ =>
    if o.hasLeft ∧ !o.aborted then p.settle
    else (p.retireHead (if o.aborted then 2 else 1)).settle

/-- R68 to R70: the head order's aborted flag is set. -/
def Spout.markAborted (p : Spout) : Spout :=
  match p.queue with
  | [] => p
  | o :: rest => { p with queue := { o with aborted := true } :: rest }

/-! ### HELD, TAILING, FAULTED -/

/-- R64, steps 3 and 4. -/
def Spout.becomeHeld (reason : HeldReason) (p : Spout) : Spout :=
  (({ p with ctl := { p.ctl with heldReason := some reason } }).enter .held).raise .held reason.code

/-- R64: entry to HELD. -/
def enterHeld (reason : HeldReason) (i : SpoutId) (s : State) : State :=
  (releaseAir i (s.upd i Spout.shutGate)).upd i (Spout.becomeHeld reason)

/-- R67, steps 3 and 4, and R86. -/
def Spout.becomeTailing (reason : EndReason) (p : Spout) : Spout :=
  ({ p with ctl := { p.ctl with
      heldReason := none
      endReason := some reason
      massAtClose := p.chan.massG
      flowAtClose := p.chan.filtered
      tailAge := 0
      settleRun := 0 } }).enter .tailing

/-- R67: entry to TAILING. -/
def enterTailing (reason : EndReason) (i : SpoutId) (s : State) : State :=
  (releaseAir i (s.upd i Spout.shutGate)).upd i (Spout.becomeTailing reason)

/-- R73, step 3: in ZEROING the step is discarded; any retry wait ends and the pending proceed mark is cleared. -/
def Spout.dropZeroWork (p : Spout) : Spout :=
  { p with zero := { p.zero with step := none, retryWait := none, pendingProceed := false } }

/-- R73, steps 5 and 6. -/
def Spout.becomeFaulted (kind : FaultKind) (p : Spout) : Spout :=
  (({ p with ctl := { p.ctl with faultKind := some kind, heldReason := none, endReason := none } }).enter .faulted).raise
    .fault kind.code

/-- R73, steps 3 to 6. -/
def Spout.fault (kind : FaultKind) (p : Spout) : Spout := ((p.dropZeroWork).recordResult .faulted).becomeFaulted kind

/-- R73: fault entry, from every state but PARKED and FAULTED. -/
def enterFault (kind : FaultKind) (i : SpoutId) (s : State) : State :=
  if (s.spout i).ctl.state = .parked ∨ (s.spout i).ctl.state = .faulted then s
  else (releaseAir i (s.upd i Spout.shutGate)).upd i (Spout.fault kind)

/-! ### Opening a compartment -/

/-- R61, steps 1 to 4, on the head order `o`. -/
def Spout.openWith (p : Spout) (o : Order) (rest : List Order) : Spout :=
  ({ p with
    queue := { o with nextIndex := o.nextIndex + 1 } :: rest
    chan := { p.chan with acc := 0, massG := 0, overrange := false, fillMark := false, satMark := false }
    zero := { p.zero with
      staleZero := p.zero.owed == 8
      pendingProceed := false
      retryWait := none
      step := none }
    ctl := { p.ctl with
      openComp := some { tag := o.tag, index := o.nextIndex, targetKg := o.targets.getD (o.nextIndex - 1) 0 }
      resumePhase := some .coarse
      ratio := 1000
      duration := 0
      endReason := none
      heldReason := none } }).enter .armed

/-- R61, R123: the next compartment of the head order is opened. Without a head order nothing opens. -/
def Spout.openCompartment (p : Spout) : Spout :=
  match p.queue with
  | [] => p
  | o :: rest => p.openWith o rest

/-- R61: a compartment is opened, and the permissives are examined (R151). -/
def openCompartment (i : SpoutId) (s : State) : State := examineArmed i (s.upd i Spout.openCompartment)

/-! ### The completion of a zero step -/

/-- R52: the detail byte of ZERO_REJECTED. -/
def rejectedDetail (zeroNow : Bool) (candidate zero : Nat) : Nat :=
  (if zeroNow then 2 else 0) + if candidate < zero then 1 else 0

/-- R42, R50: a candidate is accepted within the drift limit, or rejected with ZERO_REJECTED. -/
def Spout.judge (zeroNow : Bool) (sum : Nat) (p : Spout) : Spout :=
  let c := candidateZero sum
  if distance c p.zero.zero ≤ p.par.driftLimit then { p with zero := { p.zero with zero := c, owed := 0 } }
  else p.raise .zeroRejected (rejectedDetail zeroNow c p.zero.zero)

/-- R41, steps 1 to 4, without the examination of R40. -/
def Spout.completeNormal (p : Spout) (st : ZeroStep) : Spout :=
  let q := { p with zero := { p.zero with
    owed := p.zero.owed - 1
    partialSum := p.zero.partialSum + st.sum
    stepsDone := p.zero.stepsDone + 1 } }
  let r :=
    if q.zero.cadence.stepsPerSet ≤ q.zero.stepsDone then
      let t := q.judge false q.zero.partialSum
      { t with zero := { t.zero with stepsDone := 0, partialSum := 0 } }
    else q
  r.endStep

/-- R48, steps 1 to 3. -/
def Spout.completeMakeup (p : Spout) (st : ZeroStep) : Spout :=
  ({ p with zero := { p.zero with
    zero := candidateZero st.sum
    makeupOwed := false
    owed := 0
    stepsDone := 0
    partialSum := 0 } }).endStep

/-- R48, step 4: whether the make-up set opens a compartment. -/
def Spout.proceedsAfter (p : Spout) (st : ZeroStep) : Bool := st.origin == .ready && p.zero.pendingProceed

/-- R41, R48, R50: a step that has taken its full length completes. -/
def completeStep (i : SpoutId) (s : State) : State :=
  match (s.spout i).zero.step with
  | none => s
  | some st =>
    match st.kind with
    | .normal => s.upd i fun p => (p.completeNormal st).examineZeroing
    | .zeroNow => s.upd i fun p => ((p.judge true st.sum).endStep).examineZeroing
    | .makeup =>
      if (s.spout i).proceedsAfter st then
        openCompartment i (s.upd i fun p => p.completeMakeup st)
      else s.upd i fun p => (p.completeMakeup st).examineZeroing

/-- R41: a passing sample's raw value is added to the step sum and 1 to the samples taken. -/
def ZeroStep.take (raw : Nat) (st : ZeroStep) : ZeroStep := { st with taken := st.taken + 1, sum := st.sum + raw }

/-- R41: a passing sample is added to the step. -/
def Spout.takeSample (raw : Nat) (p : Spout) : Spout :=
  { p with zero := { p.zero with step := p.zero.step.map (ZeroStep.take raw) } }

/-- R41: whether a good sample passes the test of the step in progress and brings it to its length. -/
def State.completesStep (s : State) (i : SpoutId) (raw : Nat) (hs : HeadStatus) : Bool :=
  match (s.spout i).zero.step with
  | some st => s.stepPasses i st raw hs && st.length ≤ st.taken + 1
  | none => false

/-- R41, R43: a sample of a step in progress; `none` is a filled sample, which cannot pass. -/
def stepSample (i : SpoutId) (sample : Option (Nat × HeadStatus)) (s : State) : State :=
  match (s.spout i).zero.step, sample with
  | some st, some (raw, hs) =>
    if s.completesStep i raw hs then completeStep i (s.upd i (Spout.takeSample raw))
    else if s.stepPasses i st raw hs then s.upd i (Spout.takeSample raw)
    else abandonStep i s
  | _, _ => abandonStep i s

end Sys2Proof.Machine
end

