-- ==== Sys2Proof/Machine/Flags.lean ====
section
/-! DEFINITION. Every flag byte and packed byte that a frame carries (R172, R185): the flags of REPORT and STATUS, the flags
and the packed byte of a result record, counter bytes, the entry byte of a lane and the lane byte of COUNTERS. -/

namespace Sys2Proof.Machine

/-- R172: the flag byte of a REPORT. -/
def reportFlags (s : State) (p : Spout) : Nat :=
  flagBit 0 p.zero.makeupOwed + flagBit 1 (p.zero.owed == 8) + flagBit 2 s.silent + flagBit 3 p.curve.exchangePending

/-- R185: the flag byte of a STATUS record. -/
def statusFlags (s : State) (p : Spout) : Nat :=
  flagBit 0 p.zero.makeupOwed + flagBit 1 p.curve.exchangePending + flagBit 2 s.silent

/-- R185: the flag byte of a result record. -/
def Result.flags (r : Result) : Nat :=
  flagBit 0 r.zeroStale + flagBit 1 r.filled + flagBit 2 r.tailTimeout + flagBit 3 r.unsettled +
    flagBit 4 r.saturated + flagBit 5 r.switchedAtEnd

/-- R185: a counter byte, bit 7 overflow and bits 6 to 0 the count. -/
def Counter.byte (c : Counter) : Byte := Machine.byte (flagBit 7 c.overflow + c.count)

/-- R185: the entry byte of MAP_LANE and UNMAP_LANE. -/
def entryByte (e : Option Lane) : Byte :=
  match e with
  | some e => byte (128 + flagBit 6 e.forward + e.spout.val * 16 + e.role.code)
  | none => 0

/-- R185: the four bytes that COUNTERS carries for a lane. -/
def laneBytes (e : Option Lane) : List Byte :=
  match e with
  | some e =>
    [byte (128 + flagBit 6 e.stale + e.spout.val * 16 + e.role.code), e.crc.byte, e.gap.byte, e.dup.byte]
  | none => [0, 0, 0, 0]

end Sys2Proof.Machine
end

