-- ==== Sys2Proof/Machine/Sample.lean ====
section
/-! DEFINITION. Force to flow (chapter 1) and what a sample does when it is handed on (R20): the cutoff and the fine band
(R81 to R85), the tail (R87, R88), the flood run (R108 to R110), pacing (R99), the air-lost run (R154), the pressure wait
(R141), the stuck-gate run (R112), the zero tracker's counts and the report interval (R169). Each condition that a row of the
opcode table names is one function here, shared by the sample that reaches it and by the row's command. -/

namespace Sys2Proof.Machine

/-! ### From raw counts to unfiltered flow -/

/-- R11: the net force before its upper limit. -/
def grossNet (raw zero : Nat) : Nat := raw - zero

/-- R11: the net force. -/
def netForce (raw zero : Nat) : Nat := min 262143 (grossNet raw zero)

/-- R13: the flow of a net force on a curve. -/
def curveFlow (f : Vector Nat 17) (n : Nat) : Nat :=
  let k := n / 16384
  let r := n % 16384
  let lo := f.getD k 0
  let hi := f.getD (k + 1) 0
  lo + ((hi - lo) * r + 8192) / 16384

/-- R14: the span trim. -/
def spanTrim (q span : Nat) : Nat := min 20000 ((q * span + 2048) / 4096)

/-- R15: the low-flow cutoff. -/
def lowFlowCut (st : SpoutState) (cut s : Nat) : Nat := if st.gateOpen then s else if cut ≤ s then s else 0

/-- R11 to R15: the unfiltered flow of a good sample. -/
def Spout.flowOf (p : Spout) (raw : Nat) : Nat :=
  lowFlowCut p.ctl.state p.par.lowCut
    (spanTrim (curveFlow (p.curve.points p.curve.selected) (netForce raw p.zero.zero)) p.par.span)

/-- R12: the detail byte of FORCE_OVERRANGE, or 0 when the sample meets neither condition. -/
def overrangeDetail (above clipped : Bool) : Nat := (if above then 1 else 0) + if clipped then 2 else 0

/-- R12: the overrange mark and its alert. -/
def Spout.watchRange (raw : Nat) (hs : HeadStatus) (p : Spout) : Spout :=
  let d := overrangeDetail (262143 < grossNet raw p.zero.zero) (hs == .clipped)
  if d = 0 then
    if p.ctl.state.compartmentOpen then p else { p with chan := { p.chan with overrange := false } }
  else if p.chan.overrange then p
  else ({ p with chan := { p.chan with overrange := true } }).raise .forceOverrange d

/-- R18, R19: the flow added to the accumulator, which saturates. -/
def Channel.integrate (c : Channel) (u : Nat) : Channel :=
  if 4294967295 < c.acc + u then { c with acc := 4294967295, massG := 4294967295 / 40, satMark := true }
  else { c with acc := c.acc + u, massG := (c.acc + u) / 40 }

/-- R16: the flow enters the window at its newest end, and F is the floor of the mean of the eight. -/
def Channel.enterWindow (c : Channel) (u : Nat) : Channel :=
  let w := c.window.drop 1 ++ [u]
  { c with window := w, filtered := w.sum / 8 }

/-- R16, R18: the flow of a sample, good or filled, enters the window and, with a compartment open, the accumulator. -/
def Spout.meter (u : Nat) (p : Spout) : Spout :=
  let c := p.chan.enterWindow u
  { p with chan := if p.ctl.state.compartmentOpen then c.integrate u else c }

/-- R8, R11 to R18: a good sample is worked. -/
def Spout.workGood (raw : Nat) (hs : HeadStatus) (p : Spout) : Spout :=
  let u := p.flowOf raw
  let q := p.watchRange raw hs
  ({ q with chan := { q.chan with missingRun := 0, lastGood := u } }).meter u

/-- R6: a missing sample is filled. -/
def Spout.workFill (p : Spout) : Spout :=
  let q := p.meter p.chan.lastGood
  { q with chan := { q.chan with fillMark := q.chan.fillMark || p.ctl.state.compartmentOpen } }

/-! ### Cutoff and fine band -/

/-- R81: the predicted tail in grams. -/
def Spout.tailG (p : Spout) : Nat := p.chan.filtered * p.ctl.tau / 40

/-- R81: the open compartment's target in grams. -/
def Spout.targetG (p : Spout) : Nat :=
  match p.ctl.openComp with
  | some c => c.targetKg * 1000
  | none => 0

/-- R82: the prediction has reached the target. -/
def Spout.cutoffReached (p : Spout) : Bool := p.targetG ≤ p.chan.massG + p.tailG

/-- R83: the margin that remains lies within the fine band. -/
def Spout.inFineBand (p : Spout) : Bool := p.targetG - (p.chan.massG + p.tailG) ≤ p.par.fineBand * 1000

/-- R83, R104: the move from COARSE to FINE by the fine band. -/
def Spout.enterFineBand (p : Spout) : Spout :=
  ({ p with ctl := { p.ctl with resumePhase := some .fine, gateDemand := p.par.fineOpening, floodRun := 0 } }).enter .fine

/-- R82 to R84: the two tests of a sample in COARSE or FINE. -/
def cutoffTests (i : SpoutId) (s : State) : State :=
  if (s.spout i).cutoffReached then enterTailing .normal i s
  else if (s.spout i).ctl.state = .coarse ∧ (s.spout i).inFineBand then s.upd i Spout.enterFineBand
  else s

/-! ### Flood -/

/-- R108: a sample's F is above a flood limit that is not off. -/
def Spout.flooding (p : Spout) : Bool := p.par.floodLimit != 0 && p.par.floodLimit < p.chan.filtered

/-- R109: whether the next flooding sample brings the run to 8 in COARSE. -/
def Spout.floodDropReached (p : Spout) : Bool := p.ctl.state == .coarse && p.flooding && 8 ≤ p.ctl.floodRun + 1

/-- R110: whether the next flooding sample brings the run to 400 in FINE. -/
def Spout.floodClosureReached (p : Spout) : Bool := p.ctl.state == .fine && p.flooding && 400 ≤ p.ctl.floodRun + 1

/-- R109: the gate drops to the fine opening and the spout moves to FINE. -/
def Spout.floodDrop (p : Spout) : Spout :=
  ((({ p with
    gatePending := true
    ctl := { p.ctl with
      resumePhase := some .fine
      gateDemand := p.par.fineOpening
      sentDemand := max p.par.fineOpening p.par.minOpening
      floodRun := 0 } }).enter .fine).raise .flood 1)

/-- R110: the spout enters TAILING with end reason FLOOD. -/
def floodClosure (i : SpoutId) (s : State) : State := raise i .flood 2 (enterTailing .flood i s)

/-- R108: the flood run after a sample that brings no action. -/
def Spout.tickFlood (p : Spout) : Spout :=
  { p with ctl := { p.ctl with floodRun := if p.flooding then p.ctl.floodRun + 1 else 0 } }

/-- R108: a sample's effect on the flood run in COARSE or FINE. -/
def countFlood (i : SpoutId) (s : State) : State :=
  if (s.spout i).floodDropReached then s.upd i Spout.floodDrop
  else if (s.spout i).floodClosureReached then floodClosure i s
  else s.upd i Spout.tickFlood

/-! ### Pacing -/

/-- R99: whether the next sample is a pacing point. -/
def Spout.pacingReached (p : Spout) : Bool := 8 ≤ p.ctl.pacing + 1

/-- R99: a pacing point. -/
def Spout.pace (p : Spout) : Spout :=
  let q := { p with ctl := { p.ctl with pacing := 0 } }
  (if q.ctl.state.gateOpen then q.regulate.demandUpdate else q).orderGate

/-- R99: a sample's effect on the pacing count. -/
def Spout.countPacing (p : Spout) : Spout :=
  if p.pacingReached then p.pace else { p with ctl := { p.ctl with pacing := p.ctl.pacing + 1 } }

/-! ### Air -/

/-- R154: whether the next sample brings the air-lost run to 200. -/
def State.airLostReached (s : State) (i : SpoutId) : Bool :=
  (s.spout i).ctl.state.gateOpen && !s.airReached i && 200 ≤ (s.spout i).ctl.airLostRun + 1

/-- R154: the air-lost run after a sample on which the air is low or not. -/
def Spout.tickAirLost (low : Bool) (p : Spout) : Spout :=
  { p with ctl := { p.ctl with airLostRun := if low then p.ctl.airLostRun + 1 else 0 } }

/-- R154: a sample's effect on the air-lost run in COARSE or FINE. -/
def countAirLost (i : SpoutId) (s : State) : State :=
  if s.airLostReached i then enterHeld .air i s
  else s.upd i (Spout.tickAirLost (!s.airReached i))

/-- R141: whether the next sample brings the pressure wait to 800. -/
def Spout.airFailReached (p : Spout) : Bool :=
  p.ctl.state == .awaitAir &&
    match p.ctl.pressureWait with
    | some n => 800 ≤ n + 1
    | none => false

/-- R141: a running pressure wait is one sample longer. -/
def Spout.tickPressure (p : Spout) : Spout :=
  { p with ctl := { p.ctl with pressureWait := p.ctl.pressureWait.map (· + 1) } }

/-- R141: a sample's effect on a running pressure wait. -/
def countPressureWait (i : SpoutId) (s : State) : State :=
  if (s.spout i).airFailReached then enterFault .airFail i s
  else s.upd i Spout.tickPressure

/-! ### The stuck gate -/

/-- R112: the spout stands outside the gate's open states while its gate reads open. -/
def State.gateStandsOpen (s : State) (i : SpoutId) : Bool :=
  !(s.spout i).ctl.state.stuckExempt && 50 < (s.gate i).1

/-- R113: whether the next sample brings the stuck-gate run to 1200. -/
def State.stuckReached (s : State) (i : SpoutId) : Bool :=
  s.gateStandsOpen i && 1200 ≤ (s.spout i).ctl.stuckRun + 1

/-- R112: the stuck-gate run after a sample on which the gate stands open or not. -/
def Spout.tickStuck (isOpen : Bool) (p : Spout) : Spout :=
  { p with ctl := { p.ctl with stuckRun := if isOpen then p.ctl.stuckRun + 1 else 0 } }

/-- R112, R113: a sample's effect on the stuck-gate run. -/
def countStuck (i : SpoutId) (s : State) : State :=
  if s.stuckReached i then enterFault .gateStuck i s
  else s.upd i (Spout.tickStuck (s.gateStandsOpen i))

/-! ### The tail -/

/-- R87: the sample's F is below the low-flow cutoff setting. -/
def Spout.quiet (p : Spout) : Bool := p.chan.filtered < p.par.lowCut

/-- R87: whether the next sample settles the tail. -/
def Spout.settleReached (p : Spout) : Bool :=
  p.ctl.state == .tailing && p.quiet && p.par.settleCount ≤ p.ctl.settleRun + 1

/-- R88: whether the next sample ends the tail by its age. -/
def Spout.timeoutReached (p : Spout) : Bool :=
  p.ctl.state == .tailing && !p.settleReached && 4000 ≤ p.ctl.tailAge + 1

/-- R87, R88, R90: the tail ends, the result is recorded and the spout moves on. -/
def Spout.endTail (timedOut : Bool) (p : Spout) : Spout := (p.recordResult (.tail timedOut)).moveOn

/-- R87, R88: a sample's effect in TAILING. -/
def Spout.countTail (p : Spout) : Spout :=
  if p.settleReached then p.endTail false
  else if p.timeoutReached then p.endTail true
  else { p with ctl := { p.ctl with
      tailAge := p.ctl.tailAge + 1
      settleRun := if p.quiet then p.ctl.settleRun + 1 else 0 } }

/-! ### Handing on -/

/-- R61: the duration count of an open compartment. -/
def Spout.countDuration (p : Spout) : Spout :=
  if p.ctl.state.compartmentOpen then
    { p with ctl := { p.ctl with duration := min 4294967295 (p.ctl.duration + 1) } }
  else p

/-- R20, R84, R99, R112, R141, R154: what the spout controller does with a sample handed on. -/
def controllerSample (i : SpoutId) (s : State) : State :=
  let s0 := s.upd i Spout.countDuration
  let s1 :=
    if (s0.spout i).ctl.state.gateOpen then cutoffTests i s0
    else if (s0.spout i).ctl.state = .tailing then s0.upd i Spout.countTail
    else s0
  let s2 := if (s1.spout i).ctl.state.gateOpen then countFlood i s1 else s1
  let s3 := s2.upd i Spout.countPacing
  let s4 := if (s3.spout i).ctl.state.gateOpen then countAirLost i s3 else s3
  let s5 := if (s4.spout i).ctl.state = .awaitAir then countPressureWait i s4 else s4
  countStuck i s5

/-- R41: the sample's part in a step that was in progress before the sample was handed on. -/
def stepIf (i : SpoutId) (sample : Option (Nat × HeadStatus)) (stepping : Bool) (s : State) : State :=
  if stepping ∧ (s.spout i).zero.step.isSome then stepSample i sample s else s

/-- R46: the sample's part in a retry wait that was running before the sample was handed on. -/
def retryIf (i : SpoutId) (waiting : Bool) (s : State) : State :=
  if waiting ∧ (s.spout i).zero.retryWait.isSome then countRetry i s else s

/-- R41: whether a sample completes the step that was in progress before it was handed on. -/
def State.sampleCompletes (s : State) (i : SpoutId) (sample : Option (Nat × HeadStatus)) (stepping : Bool) : Bool :=
  match sample with
  | some (raw, hs) => stepping && s.completesStep i raw hs
  | none => false

/-- R38, R41: a sample counts toward the due point and toward the step. Where it brings a due point and completes the step,
either may be taken first (R48), as a free value picks. -/
def dueAndStep (i : SpoutId) (sample : Option (Nat × HeadStatus)) (stepping : Bool) (s : State) : State :=
  if (s.spout i).dueReached ∧ s.sampleCompletes i sample stepping then
    let u := { s with freeCount := s.freeCount + 1 }
    if Config.dueFirst s.freeCount then stepIf i sample stepping (countDue i u)
    else countDue i (stepIf i sample stepping u)
  else stepIf i sample stepping (countDue i s)

/-- R20, R38, R41, R46: what the zero tracker does with a sample handed on. `stepping` and `waiting` say whether a step was in
progress and whether a retry wait was running before the sample was handed on; a step or a wait that the sample itself
brings about does not count it (R40). -/
def zeroSample (i : SpoutId) (sample : Option (Nat × HeadStatus)) (stepping waiting : Bool) (s : State) : State :=
  retryIf i waiting (dueAndStep i sample stepping s)

/-- R169: whether the next sample brings the report interval to its setting. -/
def Spout.reportReached (p : Spout) : Bool := p.par.reportInterval ≤ p.reportCount + 1

/-- R169: the report interval count reaches its setting. -/
def Spout.reportExpires (p : Spout) : Spout := { p with reportCount := 0, reportDue := true }

/-- R169: a sample's effect on the report interval count. -/
def Spout.countReport (p : Spout) : Spout :=
  if p.reportReached then p.reportExpires else { p with reportCount := p.reportCount + 1 }

/-- R20: a sample is handed on to the spout controller, then to the zero tracker, then to the P-port transmitter. -/
def handOn (i : SpoutId) (sample : Option (Nat × HeadStatus)) (s : State) : State :=
  let stepping := (s.spout i).zero.step.isSome
  let waiting := (s.spout i).zero.retryWait.isSome
  (zeroSample i sample stepping waiting (controllerSample i s)).upd i Spout.countReport

/-! ### Good, filled and lost samples -/

/-- R8: a good sample. -/
def goodSample (i : SpoutId) (raw : Nat) (hs : HeadStatus) (s : State) : State :=
  handOn i (some (raw, hs)) (s.upd i (Spout.workGood raw hs))

/-- R5: the missing run rises by one, up to 255. -/
def Spout.countMissed (p : Spout) : Spout :=
  { p with chan := { p.chan with missingRun := min 255 (p.chan.missingRun + 1) } }

/-- R5: a missing sample is counted, in the lane's gap counter and in the missing run, and abandons any zero step. -/
def countMissing (l : LaneId) (i : SpoutId) (s : State) : State :=
  abandonStep i ((s.updLane l fun e => { e with gap := e.gap.bump }).upd i Spout.countMissed)

/-- R7: an unfilled missing sample faults a spout with a compartment open. -/
def loseSample (i : SpoutId) (s : State) : State :=
  if (s.spout i).ctl.state.compartmentOpen then enterFault .sampleLoss i s else s

/-- R5 to R7: one missing sample, dealt with whole. -/
def missingSample (l : LaneId) (i : SpoutId) (s : State) : State :=
  let t := countMissing l i s
  if (t.spout i).chan.missingRun ≤ 4 then handOn i none (t.upd i Spout.workFill) else loseSample i t

/-- R5: missing samples, taken one at a time. -/
def missingSamples (l : LaneId) (i : SpoutId) : Nat → State → State
  | 0, s => s
  | n + 1, s => missingSamples l i n (missingSample l i s)

/-! ### Starvation -/

/-- R9: the channel's part of a starvation. -/
def Spout.starveChannel (p : Spout) : Spout := { p with chan := { p.chan with lastSeq := none, missingRun := 0 } }

/-- R9: the FORCE lane of a spout is starved, once for each silence. -/
def starve (i : SpoutId) (s : State) : State :=
  match s.laneOf i .force with
  | none => s
  | some l =>
    if (s.lane l).any (·.stale) then s
    else
      let t := (s.updLane l fun e => { e with age := 50, stale := true }).upd i Spout.starveChannel
      if (t.spout i).ctl.state.compartmentOpen then enterFault .sampleLoss i t else abandonStep i t

end Sys2Proof.Machine
end

