-- ==== Sys2Proof/Machine/Lanes.lean ====
section
/-! DEFINITION. The lane map (chapter 9): the course of a SAMPLE frame (R146), frames on a FORCE lane (R2 to R4) and on a
latest-value lane (R147), staleness (R148), the probe and bay interlocks (R152, R153) and the course of any run of bytes at
the F-port (R161). -/

namespace Sys2Proof.Machine

/-! ### Interlocks -/

/-- R152: what a probe condition does to a spout, by its state. -/
def probeCondition (i : SpoutId) (s : State) : State :=
  match (s.spout i).ctl.state with
  | .coarse => enterTailing .probe i s
  | .fine => enterTailing .probe i s
  | .held => enterTailing .probe i s
  | .awaitAir => (releaseAir i s).upd i (Spout.enter .armed)
  | .parked => s
  | .idle => s
  | .ready => s
  | .zeroing => s
  | .armed => s
  | .tailing => s
  | .faulted => s

/-- R153: what a bay condition does to a spout, by its state. -/
def bayCondition (i : SpoutId) (s : State) : State :=
  match (s.spout i).ctl.state with
  | .awaitAir => enterHeld .bay i s
  | .coarse => enterHeld .bay i s
  | .fine => enterHeld .bay i s
  | .parked => s
  | .idle => s
  | .ready => s
  | .zeroing => s
  | .armed => s
  | .tailing => s
  | .held => s
  | .faulted => s

/-! ### FORCE lanes -/

/-- R3, R147: the sequence distance, taken as 1 from an unknown sequence. -/
def seqDistance (last : Option Byte) (seq : Byte) : Nat :=
  match last with
  | none => 1
  | some l => (seq - l).toNat

/-- R3: what each accepted frame does to its FORCE lane. -/
def Lane.refresh (e : Lane) : Lane := { e with age := 0, stale := false }

/-- R3: what each accepted frame does to its channel. -/
def Spout.acceptForce (seq : Byte) (p : Spout) : Spout := { p with chan := { p.chan with lastSeq := some seq } }

/-- R3, R147: a duplicate is counted and changes nothing else. -/
def Lane.countDup (e : Lane) : Lane := { e with dup := e.dup.bump }

/-- R3 to R5: a frame delivered to the metering channel of spout `i`. -/
def deliverForce (l : LaneId) (i : SpoutId) (seq : Byte) (hs : HeadStatus) (value : Nat) (s : State) : State :=
  let d := seqDistance (s.spout i).chan.lastSeq seq
  if d = 0 then s.updLane l Lane.countDup
  else
    let t := missingSamples l i (d - 1) ((s.updLane l Lane.refresh).upd i (Spout.acceptForce seq))
    match hs with
    | .headFault => missingSample l i t
    | .ok => goodSample i value .ok t
    | .clipped => goodSample i value .clipped t

/-! ### Latest-value lanes -/

/-- R147: a value brought into its role's range. -/
def latestValue (r : Role) (v : Nat) : Nat :=
  match r with
  | .force => 0
  | .gate => min 1000 v
  | .air => min 65535 v
  | .probe => if v = 0 then 0 else 1
  | .bay => if v = 1 then 1 else 0

/-- R147: an accepted frame of sequence distance `d` sets the last sequence, counts its gap, and, with HEAD_FAULT, counts one
error more. -/
def Lane.accept (seq : Byte) (d : Nat) (hs : HeadStatus) (e : Lane) : Lane :=
  let gap := e.gap.bumpBy (d - 1)
  { e with lastSeq := some seq, gap := if hs = .headFault then gap.bump else gap }

/-- R147: a usable value is stored, and the lane is fresh again. -/
def Lane.store (v : Nat) (e : Lane) : Lane := { e.refresh with latest := latestValue e.role v }

/-- R147, last column: the consumers of an accepted value. -/
def offerLatest (i : SpoutId) (r : Role) (v : Nat) (s : State) : State :=
  match r with
  | .force => s
  | .gate => s
  | .air => examinePressure i s
  | .probe => if latestValue .probe v = 1 then probeCondition i s else examineArmed i s
  | .bay => if latestValue .bay v = 0 then bayCondition i s else examineArmed i s

/-- R147: a good SAMPLE frame on a GATE, AIR, PROBE or BAY lane whose entry is `e`. -/
def takeLatest (l : LaneId) (e : Lane) (seq : Byte) (hs : HeadStatus) (v : Nat) (s : State) : State :=
  let d := seqDistance e.lastSeq seq
  if d = 0 then s.updLane l Lane.countDup
  else
    let t := s.updLane l (Lane.accept seq d hs)
    if hs = .headFault then t else offerLatest e.spout e.role v (t.updLane l (Lane.store v))

/-- R148: what staleness does to the lane. -/
def Lane.goStale (e : Lane) : Lane := { e with age := 200, stale := true, lastSeq := none }

/-- R148: a GATE, AIR, PROBE or BAY lane becomes stale, once for each silence. -/
def laneGoesStale (l : LaneId) (s : State) : State :=
  match s.lane l with
  | none => s
  | some e =>
    if e.stale then s
    else
      match e.role with
      | .force => s
      | .gate => s.updLane l Lane.goStale
      | .air => s.updLane l Lane.goStale
      | .probe => probeCondition e.spout (s.updLane l Lane.goStale)
      | .bay => bayCondition e.spout (s.updLane l Lane.goStale)

/-! ### Routing at the F-port -/

/-- R146: a good SAMPLE frame on a lane with entry `e`, without the copy toward the plant. -/
def actOnSample (l : LaneId) (e : Lane) (run : Run) (s : State) : State :=
  let seq := run.getD 2 0
  let hs := headStatusOf (run.getD 3 0)
  match e.role with
  | .force => deliverForce l e.spout seq hs (sampleValue run) s
  | .gate => takeLatest l e seq hs (sampleValue run) s
  | .air => takeLatest l e seq hs (sampleValue run) s
  | .probe => takeLatest l e seq hs (sampleValue run) s
  | .bay => takeLatest l e seq hs (sampleValue run) s

/-- R146: the copy toward the plant of a good frame on a lane whose forward flag is set. -/
def forwardCopy (e : Lane) (run : Run) (s : State) : State := if e.forward then passToPlant run s else s

/-- R146, R161: a SAMPLE frame on a lane with entry `e`. -/
def routeSample (l : LaneId) (e : Lane) (run : Run) (s : State) : State :=
  if run.length ≠ 7 then countFraming s
  else if goodCrc run then actOnSample l e run (forwardCopy e run s)
  else s.updLane l fun e => { e with crc := e.crc.bump }

/-- R159: a frame is a run of 4 to 40 bytes. -/
def isFrame (run : Run) : Bool := 4 ≤ run.length && run.length ≤ 40

/-- R161: the entry on the lane that a frame's lane field names. -/
def State.namedLane (s : State) (run : Run) : Option (LaneId × Lane) :=
  (laneOfField (byteAt run 1)).bind fun l => (s.lane l).map fun e => (l, e)

/-- R161: a run of bytes completes at the F-port. -/
def fPortRun (run : Run) (s : State) : State :=
  if !isFrame run then countFraming s
  else if run.getD 0 0 = typeSample then
    match s.namedLane run with
    | none => passToPlant run s
    | some (l, e) => routeSample l e run s
  else passToPlant run s

end Sys2Proof.Machine
end

