-- ==== Sys2Proof/Machine/Link.lean ====
section
/-! DEFINITION. The link ports' transmitters (chapter 10): the frames the NB4 builds (R107, R167 to R169, R172), the choice each
arbiter makes when its line is free (R165, R166), and the silence timer (R170, R171). -/

namespace Sys2Proof.Machine

/-! ### Frames built -/

/-- R107, R172: a gate order of a spout for its GATE lane, built from the state that stands. -/
def gateOrderFrame (lane : LaneId) (p : Spout) : Run :=
  sealFrame ([typeGateOrder, byte lane.val] ++ be16 p.ctl.sentDemand ++
    [byte (flagBit 0 (p.place == .holder)), p.orderSeq])

/-- R167, R172: a response. -/
def responseFrame (address : Nat) (number code : Byte) (status : Status) (data : List Byte) : Run :=
  sealFrame ([typeResponse, byte address, number, code, byte status.code, byte data.length] ++ data)

/-- R168, R172: an alert, from its mark. -/
def alertFrame (address scope kind : Nat) (m : AlertMark) : Run :=
  sealFrame [typeAlert, byte address, byte scope, byte kind, byte m.count, byte m.detail]

/-- The head order's tag, or 0 with an empty queue (R79). -/
def Spout.headTag (p : Spout) : Nat :=
  match p.queue with
  | o :: _ => o.tag
  | [] => 0

/-- The open compartment's index, or 0 with none open (R79). -/
def Spout.openIndex (p : Spout) : Nat :=
  match p.ctl.openComp with
  | some c => c.index
  | none => 0

/-- The open compartment's target in kg, or 0 with none open (R169). -/
def Spout.openTarget (p : Spout) : Nat :=
  match p.ctl.openComp with
  | some c => c.targetKg
  | none => 0

/-- R79: the code of the held reason, 0 for none. -/
def Spout.heldCode (p : Spout) : Nat := (p.ctl.heldReason.map HeldReason.code).getD 0

/-- R169, R172: a report of a spout, built from the state that stands. -/
def reportFrame (i : SpoutId) (s : State) : Run :=
  let p := s.spout i
  sealFrame ([typeReport, byte s.address, byte i.val, byte p.ctl.state.code] ++ be16 p.headTag ++ [byte p.openIndex] ++
    be16 p.chan.filtered ++ be24 (p.chan.massG / 1000) ++ be16 p.openTarget ++ be16 p.ctl.sentDemand ++
    [byte p.zero.owed, byte (reportFlags s p), byte p.heldCode])

/-! ### The plant-bound line -/

/-- R165: the pending kind of a spout with the lowest code. -/
def Spout.firstAlert (p : Spout) : Option AlertKind := alertKinds.find? fun k => p.alerts[k.index].pending

/-- R165: the first spout with a pending alert. -/
def State.alertingSpout (s : State) : Option (SpoutId × AlertKind) :=
  spoutIds.findSome? fun i => ((s.spout i).firstAlert).map fun k => (i, k)

/-- R165: the spout counting `n` places round from the spout after the last spout reported. -/
def State.roundFrom (s : State) (n : Nat) : SpoutId := Fin.ofNat 4 (s.lastReported.val + 1 + n)

/-- R165: the next spout to report. -/
def State.reportingSpout (s : State) : Option SpoutId :=
  ([0, 1, 2, 3].map s.roundFrom).find? fun i => (s.spout i).reportDue

/-- R168: a spout alert's frame goes out and its mark is cleared. -/
def sendSpoutAlert (i : SpoutId) (k : AlertKind) (s : State) : State :=
  let t := s.upd i fun p => { p with alerts := p.alerts.set k.index p.alerts[k.index].taken }
  let frame := alertFrame s.address i.val (k.index.val + 1) (s.spout i).alerts[k.index]
  { t with plantLine := some ⟨frame, false⟩ }

/-- R169: a report goes out, its flag is cleared and its spout is recorded as the last reported. -/
def sendReport (i : SpoutId) (s : State) : State :=
  let t := s.upd i fun p => { p with reportDue := false }
  { t with lastReported := i, plantLine := some ⟨reportFrame i s, false⟩ }

/-- R165: the choice of the free plant-bound line after pass-through traffic and responses. -/
def chooseMark (s : State) : State :=
  match s.alertingSpout with
  | some (i, k) => sendSpoutAlert i k s
  | none =>
    if s.silenceMark.pending then
      { s with silenceMark := s.silenceMark.taken
               plantLine := some ⟨alertFrame s.address 4 10 s.silenceMark, false⟩ }
    else if s.overrunMark.pending then
      { s with overrunMark := s.overrunMark.taken
               plantLine := some ⟨alertFrame s.address 4 11 s.overrunMark, false⟩ }
    else
      match s.reportingSpout with
      | some i => sendReport i s
      | none => s

/-- R165: the plant-bound arbiter's choice, made when its line stands free. -/
def servePlant (s : State) : State :=
  match s.plantLine with
  | some _ => s
  | none =>
    match s.plantFifo with
    | run :: rest => { s with plantFifo := rest, plantLine := some ⟨run, false⟩ }
    | [] =>
      match s.respFifo with
      | r :: rest => { s with respFifo := rest, plantLine := some r }
      | [] => chooseMark s

/-! ### The field-bound line -/

/-- R107: a spout's gate order goes out on its GATE lane and its order sequence advances. -/
def sendGateOrder (i : SpoutId) (l : LaneId) (s : State) : State :=
  let t := s.upd i fun p => { p with gatePending := false, orderSeq := p.orderSeq + 1 }
  { t with fieldLine := some ⟨gateOrderFrame l (s.spout i), false⟩ }

/-- R107: the pending flag of a spout without a GATE lane is cleared and nothing is sent. -/
def dropGateOrder (i : SpoutId) (s : State) : State := s.upd i fun p => { p with gatePending := false }

/-- R166, the second source: the oldest frame of the field-bound FIFO. -/
def sendFieldPass (s : State) : State :=
  match s.fieldFifo with
  | run :: rest => { s with fieldFifo := rest, fieldLine := some ⟨run, false⟩ }
  | [] => s

/-- R166: the field-bound arbiter's choice among the spouts listed, in the order of their numbers, and then the FIFO. -/
def chooseField : List SpoutId → State → State
  | [], s => sendFieldPass s
  | i :: rest, s =>
    if (s.spout i).gatePending then
      match s.laneOf i .gate with
      | some l => sendGateOrder i l s
      | none => chooseField rest (dropGateOrder i s)
    else chooseField rest s

/-- R166: the field-bound arbiter's choice, made when its line stands free. -/
def serveField (s : State) : State :=
  match s.fieldLine with
  | some _ => s
  | none => chooseField spoutIds s

/-- R165, R166: at the end of each command both arbiters choose, where their lines stand free. -/
def serveLines (s : State) : State := serveField (servePlant s)

/-! ### The silence timer -/

/-- R170: the timeout of a setting from 0 to 6, in ms. -/
def silenceTimeout (k : Nat) : Nat := 125 * 2 ^ k

/-- R170: what every accepted request does to the timer and the silent flag. -/
def noteAccepted (s : State) : State :=
  let t := { s with timer := if s.silenceK ≤ 6 then some 0 else none }
  if t.silent then clearSilent t else t

/-- R171: a spout that the expiry sends to HELD. -/
def State.silenceHolds (s : State) (i : SpoutId) : Bool :=
  match (s.spout i).ctl.state with
  | .awaitAir | .coarse | .fine => true
  | .parked | .idle | .ready | .zeroing | .armed | .tailing | .held | .faulted => false

/-- R171: the timer expires. -/
def expireSilence (s : State) : State :=
  let is := spoutIds.filter s.silenceHolds
  raiseSilence is.length
    (inFreeOrder (fun i t => if t.silenceHolds i then enterHeld .silence i t else t) is.length is
      { s with timer := none, silent := true })

end Sys2Proof.Machine
end

