-- ==== Sys2Proof/Machine/Course.lean ====
section
/-! DEFINITION. What every request has in common (chapters 10 and 11): addressing (R174), the restart and response-FIFO checks
(R167, R184), what an accepted request does (R170), and the response built and placed as one act (R167, R175). A request acts
first, then restarts the silence timer and clears the silent flag, and then its response is built
(notes/assumptions/6.md). -/

namespace Sys2Proof.Machine

/-! ### Response data -/

/-- The data of a response: bytes that the request has settled, or the fields of a record that is read when the response is
built. A spout that is none is one that the request did not name (BAD_SPOUT): its fields are 0 (R175). -/
inductive ReplyData where
  | bytes (bs : List Byte)
  /-- R185: the data of the spout requests. -/
  | spoutState (i : Option SpoutId)
  /-- R122: the data of ENQUEUE and CANCEL after the echoed tag. -/
  | orderState (tag : Nat) (i : Option SpoutId) (poolShown : Bool)
  /-- R183: the STATUS record. -/
  | record (i : Option SpoutId)
deriving DecidableEq, Repr

/-- R115: the number of orders held in all four queues together. -/
def State.heldOrders (s : State) : Nat := (spoutIds.map fun i => (s.spout i).queue.length).sum

/-- R115: the free count of the pool. -/
def State.poolFree (s : State) : Nat := 16 - s.heldOrders

/-- R183, R185: the STATUS record of a spout. -/
def statusRecord (i : SpoutId) (s : State) : List Byte :=
  let p := s.spout i
  [byte i.val, byte p.ctl.state.code, byte p.heldCode, byte ((p.ctl.resumePhase.map Phase.code).getD 0),
   byte ((p.ctl.faultKind.map FaultKind.code).getD 0)] ++
  be24 p.zero.zero ++ [byte p.zero.owed, byte (statusFlags s p), byte p.zero.stepsDone] ++
  be16 p.ctl.tau ++ be16 p.ctl.ratio ++ be16 p.ctl.sentDemand ++ be16 p.chan.filtered ++ be32 p.chan.massG ++
  be16 p.headTag ++ [byte p.queue.length, byte p.place.code]

/-- R175: the data of a response, read from the state the request leaves. -/
def ReplyData.build (d : ReplyData) (s : State) : List Byte :=
  match d with
  | .bytes bs => bs
  | .spoutState (some i) => [byte i.val, byte (s.spout i).ctl.state.code]
  | .spoutState none => [0, 0]
  | .orderState tag (some i) _ =>
    be16 tag ++ [byte (s.spout i).ctl.state.code, byte (s.spout i).queue.length, byte s.poolFree]
  | .orderState tag none poolShown => be16 tag ++ [0, 0, if poolShown then byte s.poolFree else 0]
  | .record (some i) => statusRecord i s
  | .record none => List.replicate 27 0

/-- What a request comes to: the state it leaves, its status, its data, and whether its response is the one whose
transmission brings a RESTART. -/
structure Act where
  state : State
  status : Status
  data : ReplyData
  isRestart : Bool := false
deriving DecidableEq, Repr

/-- A request that is refused or changes nothing. -/
def Act.only (s : State) (status : Status) (data : ReplyData) : Act := { state := s, status := status, data := data }

/-! ### The course of a request -/

/-- R174: a REQUEST with this address byte and code is addressed to this NB4. -/
def State.isAddressed (s : State) (address code : Byte) : Bool :=
  if s.address = 15 then code == RequestKind.assign.code || (code == RequestKind.ident.code && address == 15)
  else code != RequestKind.assign.code && address.toNat == s.address

/-- R167: the response of an accepted request is built and placed. -/
def placeResponse (number code : Byte) (a : Act) (s : State) : State :=
  { s with respFifo := s.respFifo ++
      [{ frame := responseFrame s.address number code a.status (a.data.build s), isRestart := a.isRestart }] }

/-- R167, R170: an accepted request. -/
def acceptRequest (number code : Byte) (act : State → Act) (s : State) : State :=
  placeResponse number code (act s) (noteAccepted (act s).state)

/-- R167, R184: a request that reaches the request handler. -/
def reachHandler (number code : Byte) (act : State → Act) (s : State) : State :=
  if s.restartPending then s
  else if s.respFifo.length < 4 then acceptRequest number code act s
  else requestOverrun s

/-- R162: the course of a REQUEST frame with a good CRC whose length agrees with its parameter length. -/
def requestCourse (h : ReqHeader) (code : Byte) (ps : List Byte) (act : State → Act) (s : State) : State :=
  if 34 < ps.length then countFraming s
  else if !s.isAddressed h.address code then passToField (requestFrame h code ps) s
  else if 32 < ps.length then countFraming s
  else reachHandler h.number code act s

end Sys2Proof.Machine
end

