-- ==== Sys2Proof/Machine/CurveRequests.lean ====
section
/-! DEFINITION. The requests of the curve store (chapter 2): OPEN_WINDOW, WRITE_POINTS, WRITE_MORE, READ_POINTS, READ_MORE and
ACTIVATE. -/

namespace Sys2Proof.Machine

/-- R28: writes to a bank of a spout are refused with BANK_ACTIVE. -/
def CurveStore.bankLocked (c : CurveStore) (b : Bank) : Bool := b == c.selected || c.status b == .pending

/-- R25, R185: the data of OPEN_WINDOW for a bank of a spout. -/
def windowData (i : SpoutId) (b : Option Bank) (s : State) : List Byte :=
  let c := (s.spout i).curve
  match b with
  | some b => [byte (c.status b).code, byte c.selected.code, byte (flagBit 0 c.valid), byte (flagBit 0 (!c.bankLocked b))]
  | none => [0, byte c.selected.code, byte (flagBit 0 c.valid), 0]

/-- R25: OPEN_WINDOW. -/
def openWindowAct (ps : List Byte) (s : State) : Act :=
  if ps.length ≠ 4 then Act.only s .badParam (.bytes [0, 0, 0, 0])
  else
    match spoutOfField (byteAt ps 0) with
    | none => Act.only s .badSpout (.bytes [0, 0, 0, 0])
    | some i =>
      match bankOfCode (byteAt ps 1) with
      | none => Act.only s .badParam (.bytes (windowData i none s))
      | some b =>
        if 16 < byteAt ps 3 ∨ byteAt ps 3 < byteAt ps 2 then Act.only s .badParam (.bytes (windowData i (some b) s))
        else
          Act.only
            { s with window :=
                { isOpen := true, spout := i, bank := b, first := byteAt ps 2, last := byteAt ps 3,
                  cursor := byteAt ps 2 } }
            .ok (.bytes (windowData i (some b) s))

/-- The points that a write has stored so far, with the cursor, the number stored and whether a value was clamped. -/
structure Writing where
  points : Vector Nat 17
  cursor : Nat
  stored : Nat
  clamped : Bool
deriving DecidableEq, Repr

/-- R27: one value is taken. -/
def Writing.take (last : Nat) (w : Writing) (v : Nat) : Writing :=
  if w.cursor ≤ last then
    { points := w.points.setIfInBounds w.cursor (min 20000 v)
      cursor := w.cursor + 1
      stored := w.stored + 1
      clamped := w.clamped || decide (20000 < v) }
  else w

/-- The values that a WRITE request carries. -/
def writeValues (ps : List Byte) : List Nat := (List.range (ps.length / 2)).map fun k => word16At ps (2 * k)

/-- R27: the values are stored from a cursor. -/
def writeFrom (cursor : Nat) (ps : List Byte) (s : State) : Writing :=
  (writeValues ps).foldl (Writing.take s.window.last)
    { points := (s.spout s.window.spout).curve.points s.window.bank, cursor := cursor, stored := 0, clamped := false }

/-- R27: the bank after a write that stored values. -/
def CurveStore.written (c : CurveStore) (b : Bank) (v : Vector Nat 17) : CurveStore :=
  (c.setPoints b v).setStatus b .standbyUnchecked

/-- R27: the state after a write from a cursor. -/
def afterWrite (w : Writing) (s : State) : State :=
  let t := { s with window := { s.window with cursor := w.cursor } }
  if w.stored = 0 then t
  else t.upd s.window.spout fun p => { p with curve := p.curve.written s.window.bank w.points }

/-- R27, R28: a write request from a cursor. -/
def writeAct (cursor : Nat) (ps : List Byte) (s : State) : Act :=
  if !s.window.isOpen then Act.only s .windowClosed (.bytes [0])
  else if ps.length % 2 = 1 ∨ ps.length = 0 ∨ 12 < ps.length then Act.only s .badParam (.bytes [0])
  else if (s.spout s.window.spout).curve.bankLocked s.window.bank then Act.only s .bankActive (.bytes [0])
  else
    let w := writeFrom cursor ps s
    Act.only (afterWrite w s) (.clampedIf w.clamped) (.bytes [byte w.stored])

/-- R27: WRITE_POINTS stores from the window's first point. -/
def writePointsAct (ps : List Byte) (s : State) : Act := writeAct s.window.first ps s

/-- R27: WRITE_MORE stores from the cursor where it stands. -/
def writeMoreAct (ps : List Byte) (s : State) : Act := writeAct s.window.cursor ps s

/-- R29: the points that a read from a cursor returns. -/
def readPoints (cursor : Nat) (s : State) : List Nat :=
  let v := (s.spout s.window.spout).curve.points s.window.bank
  (List.range (min 6 (s.window.last + 1 - cursor))).map fun k => v.getD (cursor + k) 0

/-- R29: a read request from a cursor. -/
def readAct (cursor : Nat) (ps : List Byte) (s : State) : Act :=
  if ps.length ≠ 0 then Act.only s .badParam (.bytes [0])
  else if !s.window.isOpen then Act.only s .windowClosed (.bytes [0])
  else
    let vs := readPoints cursor s
    Act.only { s with window := { s.window with cursor := cursor + vs.length } } .ok
      (.bytes (byte vs.length :: vs.flatMap be16))

/-- R29: READ_POINTS reads from the window's first point. -/
def readPointsAct (ps : List Byte) (s : State) : Act := readAct s.window.first ps s

/-- R29: READ_MORE reads from the cursor where it stands. -/
def readMoreAct (ps : List Byte) (s : State) : Act := readAct s.window.cursor ps s

/-! ### Activation -/

/-- R24: the lowest index from `i` on at which a point is less than the point before it, among `fuel` points. -/
def fallsFrom (v : Vector Nat 17) : Nat → Nat → Option Nat
  | 0, _ => none
  | fuel + 1, i => if v.getD i 0 < v.getD (i - 1) 0 then some i else fallsFrom v fuel (i + 1)

/-- R24: the failing point of a bank, or none when the bank is valid. -/
def failingPoint (v : Vector Nat 17) : Option Nat :=
  match fallsFrom v 16 1 with
  | some i => some i
  | none => if v.getD 16 0 = 0 then some 16 else none

/-- R26: the window closes if it names the spout. -/
def closeWindow (i : SpoutId) (s : State) : State :=
  if s.window.spout = i then { s with window := { s.window with isOpen := false } } else s

/-- R31: an immediate exchange of banks, with CURVE_SWITCHED. -/
def Spout.switchNow (p : Spout) : Spout :=
  ({ p with curve := p.curve.exchange }).raise .curveSwitched (switchedDetail p.curve.standby false)

/-- R32: a deferred activation. -/
def Spout.deferSwitch (p : Spout) : Spout := { p with curve := p.curve.setStatus p.curve.standby .pending }

/-- R30: a failed test leaves the standby bank STANDBY_UNCHECKED. -/
def Spout.failSwitch (p : Spout) : Spout := { p with curve := p.curve.setStatus p.curve.standby .standbyUnchecked }

/-- R185: the data of ACTIVATE. -/
def activateData (mark failing : Nat) (selected : Bank) : ReplyData :=
  .bytes [byte mark, byte failing, byte selected.code]

/-- R30: ACTIVATE of a spout. The failing point of a response that answers OK, to which no rule gives a value, is 0:
DESIGN CHOICE, unsafe (notes/assumptions/28.md). -/
def activateSpout (i : SpoutId) (s : State) : Act :=
  let c := (s.spout i).curve
  let t := closeWindow i s
  if c.exchangePending then Act.only t .ok (activateData 3 0 c.selected)
  else
    match failingPoint (c.points c.standby) with
    | some k => Act.only (t.upd i Spout.failSwitch) .curveInvalid (activateData 0 k c.selected)
    | none =>
      if (s.spout i).ctl.state.compartmentOpen then
        Act.only (t.upd i Spout.deferSwitch) .ok (activateData 2 0 c.selected)
      else Act.only (t.upd i Spout.switchNow) .ok (activateData 1 0 c.standby)

/-- R30: ACTIVATE. -/
def activateAct (ps : List Byte) (s : State) : Act :=
  if ps.length ≠ 1 then Act.only s .badParam (.bytes [0, 0, 0])
  else
    match spoutOfField (byteAt ps 0) with
    | none => Act.only s .badSpout (.bytes [0, 0, 0])
    | some i => activateSpout i s

end Sys2Proof.Machine
end

