-- ==== Sys2Proof/Machine/DeviceRequests.lean ====
section
/-! DEFINITION. The requests of the device (chapter 11): IDENT, ASSIGN, KEEPALIVE, SET_PARAM, GET_PARAM, STATUS, RESTART, the
answer to an unknown code (R175), and COUNTERS (R157). Each takes the parameter bytes and the state and gives an `Act`. -/

namespace Sys2Proof.Machine

/-- R175: an unknown code changes nothing and is answered with no data. -/
def unknownAct (s : State) : Act := Act.only s .unknownRequest (.bytes [])

/-! ### Identity -/

/-- R177: the data of IDENT. -/
def identData (s : State) : List Byte :=
  be16 Config.vendorCode ++ be16 Config.partCode ++
    [byte Config.revision, byte Config.spoutCount, byte s.address, byte s.resetCause.code]

/-- R177. -/
def identAct (ps : List Byte) (s : State) : Act :=
  Act.only s (if ps.length = 0 then .ok else .badParam) (.bytes (identData s))

/-- R178: ASSIGN on an unassigned NB4. -/
def assignAct (ps : List Byte) (s : State) : Act :=
  if ps.length = 1 ∧ byteAt ps 0 ≤ 14 then
    Act.only { s with address := byteAt ps 0 } .ok (.bytes [byte (byteAt ps 0)])
  else Act.only s .badParam (.bytes [byte s.address])

/-- R179: the flag in the response is the one that stood when the request was taken. -/
def keepaliveAct (ps : List Byte) (s : State) : Act :=
  Act.only s (if ps.length = 0 then .ok else .badParam) (.bytes [byte s.silenceK, byte (flagBit 0 s.silent)])

/-! ### Parameters -/

/-- R170, R136: a device parameter is stored. -/
def setDeviceParam (q : DeviceParam) (v : Nat) (s : State) : State :=
  match q with
  | .silence => { s with silenceK := v }
  | .grantCount =>
    if s.grantCount < v then grantDecision { s with grantCount := v } else { s with grantCount := v }

/-- R104: a minimum opening raised above the sent demand of an open gate raises the sent demand at once. -/
def Spout.setMinOpening (v : Nat) (p : Spout) : Spout :=
  let q := { p with par := { p.par with minOpening := v } }
  if q.ctl.state.gateOpen ∧ q.ctl.sentDemand < v then
    ({ q with ctl := { q.ctl with sentDemand := v } }).orderGate
  else q

/-- R49: a cadence change discards a partial set and makes make-up owed, or deferred with a compartment open. -/
def ZeroTracker.changeCadence (c : Cadence) (compartmentOpen : Bool) (z : ZeroTracker) : ZeroTracker :=
  if 1 ≤ z.stepsDone then
    { z with
      cadence := c
      dueCount := 0
      stepsDone := 0
      partialSum := 0
      makeupOwed := z.makeupOwed || !compartmentOpen
      makeupDeferred := z.makeupDeferred || compartmentOpen }
  else { z with cadence := c, dueCount := 0 }

/-- R49: a NORMAL step in progress is abandoned without a retry wait, the spout returning to its origin. -/
def Spout.dropNormalStep (p : Spout) : Spout :=
  match p.zero.step with
  | some st => if st.kind = .normal then p.endStep else p
  | none => p

/-- R49: the zero mode is set. -/
def Spout.setCadence (c : Cadence) (p : Spout) : Spout :=
  if c = p.zero.cadence then p
  else (({ p with zero := p.zero.changeCadence c p.ctl.state.compartmentOpen }).dropNormalStep).examineZeroing

/-- R180: a spout parameter is stored, with the effect the table gives it. -/
def Spout.setParam (q : SpoutParam) (v : Nat) (p : Spout) : Spout :=
  match q with
  | .span => { p with par := { p.par with span := v } }
  | .lowCut => { p with par := { p.par with lowCut := v } }
  | .fineOpening => { p with par := { p.par with fineOpening := v } }
  | .minOpening => p.setMinOpening v
  | .fineBand => { p with par := { p.par with fineBand := v } }
  | .rampStep => { p with par := { p.par with rampStep := v } }
  | .regStep => { p with par := { p.par with regStep := v } }
  | .deadband => { p with par := { p.par with deadband := v } }
  | .tau => { p with ctl := { p.ctl with tau := v } }
  | .gain => { p with par := { p.par with gain := v } }
  | .floodLimit => { p with par := { p.par with floodLimit := v }, ctl := { p.ctl with floodRun := 0 } }
  | .zeroMode => p.setCadence (cadenceOfCode v)
  | .zeroInterval => { p with par := { p.par with zeroInterval := v }, zero := { p.zero with dueCount := 0 } }
  | .zeroBand => { p with par := { p.par with zeroBand := v } }
  | .driftLimit => { p with par := { p.par with driftLimit := v } }
  | .airThreshold => { p with par := { p.par with airThreshold := v } }
  | .reportInterval => { p with par := { p.par with reportInterval := v }, reportCount := 0 }
  | .settleCount => { p with par := { p.par with settleCount := v } }

/-- R180, step 4: the parameters that are refused with a compartment open. -/
def SpoutParam.fixedInCompartment : SpoutParam → Bool
  | .span | .lowCut => true
  | .fineOpening | .minOpening | .fineBand | .rampStep | .regStep | .deadband | .tau | .gain | .floodLimit
  | .zeroMode | .zeroInterval | .zeroBand | .driftLimit | .airThreshold | .reportInterval | .settleCount => false

/-- R185: the data of SET_PARAM and GET_PARAM. -/
def paramData (scope number value : Nat) : ReplyData := .bytes ([byte scope, byte number] ++ be32 value)

/-- R180: SET_PARAM of a device parameter. -/
def setDeviceAct (number value : Nat) (s : State) : Act :=
  match deviceParam number with
  | none => Act.only s .badParam (paramData 4 number 0)
  | some q =>
    let v := q.limit value
    Act.only (setDeviceParam q v s) (.clampedIf (v != value)) (paramData 4 number v)

/-- R180: SET_PARAM of a spout parameter. -/
def setSpoutAct (i : SpoutId) (number value : Nat) (s : State) : Act :=
  match spoutParam number with
  | none => Act.only s .badParam (paramData i.val number 0)
  | some q =>
    if q.fixedInCompartment ∧ (s.spout i).ctl.state.compartmentOpen then
      Act.only s .refusedState (paramData i.val number (q.value (s.spout i)))
    else
      let v := q.limit value
      Act.only (s.upd i (Spout.setParam q v)) (.clampedIf (v != value)) (paramData i.val number v)

/-- R180: SET_PARAM. -/
def setParamAct (ps : List Byte) (s : State) : Act :=
  if ps.length ≠ 6 then Act.only s .badParam (paramData 0 0 0)
  else if byteAt ps 0 = 4 then setDeviceAct (byteAt ps 1) (word32At ps 2) s
  else
    match spoutOfField (byteAt ps 0) with
    | none => Act.only s .badSpout (paramData 0 (byteAt ps 1) 0)
    | some i => setSpoutAct i (byteAt ps 1) (word32At ps 2) s

/-- R182: GET_PARAM. -/
def getParamAct (ps : List Byte) (s : State) : Act :=
  if ps.length ≠ 2 then Act.only s .badParam (paramData 0 0 0)
  else if byteAt ps 0 = 4 then
    match deviceParam (byteAt ps 1) with
    | none => Act.only s .badParam (paramData 4 (byteAt ps 1) 0)
    | some q => Act.only s .ok (paramData 4 (byteAt ps 1) (q.value s))
  else
    match spoutOfField (byteAt ps 0) with
    | none => Act.only s .badSpout (paramData 0 (byteAt ps 1) 0)
    | some i =>
      match spoutParam (byteAt ps 1) with
      | none => Act.only s .badParam (paramData i.val (byteAt ps 1) 0)
      | some q => Act.only s .ok (paramData i.val (byteAt ps 1) (q.value (s.spout i)))

/-! ### STATUS, COUNTERS, RESTART -/

/-- R183: STATUS. -/
def statusAct (ps : List Byte) (s : State) : Act :=
  if ps.length ≠ 1 then Act.only s .badParam (.record none)
  else
    match spoutOfField (byteAt ps 0) with
    | none => Act.only s .badSpout (.record none)
    | some i => Act.only s .ok (.record (some i))

/-- R185: the four port counters of a COUNTERS response. -/
def portBytes (s : State) : List Byte :=
  [s.crcCount.byte, s.framingCount.byte, s.overrunCount.byte, s.requestOverrunCount.byte]

/-- R157: the lanes that a COUNTERS names. -/
def lanesFrom (first count : Nat) : List LaneId :=
  (List.finRange 32).filter fun l => first ≤ l.val && l.val < first + count

/-- R157: the counters of a lane return to 0. -/
def Lane.clearCounters (e : Lane) : Lane := { e with crc := Counter.zero, gap := Counter.zero, dup := Counter.zero }

/-- R157, R163: the port counters and the counters of the lanes named return to 0. -/
def clearCounters (ls : List LaneId) (s : State) : State :=
  ls.foldl (fun t l => t.updLane l Lane.clearCounters)
    { s with
      crcCount := Counter.zero
      framingCount := Counter.zero
      overrunCount := Counter.zero
      requestOverrunCount := Counter.zero }

/-- R157: COUNTERS. -/
def countersAct (ps : List Byte) (s : State) : Act :=
  let first := byteAt ps 0
  let count := byteAt ps 1
  if ps.length ≠ 2 ∨ 31 < first ∨ count = 0 ∨ 6 < count ∨ 32 < first + count then
    Act.only s .badParam (.bytes (portBytes s))
  else
    let ls := lanesFrom first count
    Act.only (clearCounters ls s) .ok (.bytes (portBytes s ++ ls.flatMap fun l => laneBytes (s.lane l)))

/-- R184: RESTART. -/
def restartAct (ps : List Byte) (s : State) : Act :=
  if ps.length = 0 then { state := { s with restartPending := true }, status := .ok, data := .bytes [], isRestart := true }
  else Act.only s .badParam (.bytes [])

end Sys2Proof.Machine
end

