-- ==== Sys2Proof/Machine/LaneRequests.lean ====
section
/-! DEFINITION. The requests of the lane map and the blower arbiter: MAP_LANE (R149), UNMAP_LANE (R150) and SET_CHAIN (R135). -/

namespace Sys2Proof.Machine

/-- R145, At MAP_LANE column: a new entry. -/
def Lane.mapped (i : SpoutId) (r : Role) (forward : Bool) : Lane where
  spout := i
  role := r
  forward := forward
  crc := Counter.zero
  gap := Counter.zero
  dup := Counter.zero
  age := 0
  stale := false
  lastSeq := none
  latest := 0

/-- R1, FORCE lane mapped column: what the mapping does to the channel. -/
def Channel.mapForce (c : Channel) : Channel :=
  { c with
    lastSeq := none
    missingRun := 0
    lastGood := 0
    window := [0, 0, 0, 0, 0, 0, 0, 0]
    filtered := 0
    overrange := false }

/-- R149: a FORCE mapping resets the channel (R1) and makes make-up owed (R47). -/
def Spout.mapForce (p : Spout) : Spout :=
  { p with chan := p.chan.mapForce, zero := { p.zero with makeupOwed := true } }

/-- R185: the data of MAP_LANE and UNMAP_LANE. -/
def laneData (l : Option LaneId) (s : State) : ReplyData :=
  match l with
  | some l => .bytes [byte l.val, entryByte (s.lane l)]
  | none => .bytes [0, 0]

/-- R149: an entry is written. -/
def mapLane (l : LaneId) (i : SpoutId) (r : Role) (forward : Bool) (s : State) : State :=
  let t := s.setLane l (some (Lane.mapped i r forward))
  if r = .force then t.upd i Spout.mapForce else t

/-- R149: checks 3 to 5, on a spout, a lane, a role and a forward flag that can be taken. -/
def mapLaneChecked (l : LaneId) (i : SpoutId) (r : Role) (forward : Bool) (s : State) : Act :=
  if (s.spout i).ctl.state ≠ .parked then Act.only s .refusedState (laneData (some l) s)
  else if (s.lane l).isSome then Act.only s .laneInUse (laneData (some l) s)
  else if (s.laneOf i r).isSome then Act.only s .roleFilled (laneData (some l) s)
  else Act.only (mapLane l i r forward s) .ok (laneData (some l) (mapLane l i r forward s))

/-- R149: MAP_LANE. -/
def mapLaneAct (ps : List Byte) (s : State) : Act :=
  if ps.length ≠ 4 then Act.only s .badParam (laneData none s)
  else
    match spoutOfField (byteAt ps 1) with
    | none => Act.only s .badSpout (laneData (laneOfField (byteAt ps 0)) s)
    | some i =>
      match laneOfField (byteAt ps 0), roleOfCode (byteAt ps 2) with
      | some l, some r =>
        if byteAt ps 3 ≤ 1 then mapLaneChecked l i r (byteAt ps 3 == 1) s
        else Act.only s .badParam (laneData (some l) s)
      | l, _ => Act.only s .badParam (laneData l s)

/-- R150: an entry becomes absent; with a GATE lane goes its spout's pending gate order, without sending. -/
def unmapLane (l : LaneId) (e : Lane) (s : State) : State :=
  let t := s.setLane l none
  if e.role = .gate then dropGateOrder e.spout t else t

/-- R150: UNMAP_LANE. -/
def unmapLaneAct (ps : List Byte) (s : State) : Act :=
  if ps.length ≠ 1 then Act.only s .badParam (laneData none s)
  else
    match laneOfField (byteAt ps 0) with
    | none => Act.only s .badParam (laneData none s)
    | some l =>
      match s.lane l with
      | none => Act.only s .okNoop (laneData (some l) s)
      | some e =>
        if (s.spout e.spout).ctl.state ≠ .parked then Act.only s .refusedState (laneData (some l) s)
        else Act.only (unmapLane l e s) .ok (laneData (some l) (unmapLane l e s))

/-- R135: the four spout numbers of a SET_CHAIN. -/
def chainOf (ps : List Byte) : List (Option SpoutId) :=
  [spoutOfField (byteAt ps 0), spoutOfField (byteAt ps 1), spoutOfField (byteAt ps 2), spoutOfField (byteAt ps 3)]

/-- R135: each of the four spouts stands once in the list. -/
def isChain (c : List SpoutId) : Bool := c.length == 4 && spoutIds.all fun i => c.contains i

/-- R185: the data of SET_CHAIN. -/
def chainData (s : State) : ReplyData := .bytes (s.chain.map fun i => byte i.val)

/-- R135: SET_CHAIN. -/
def setChainAct (ps : List Byte) (s : State) : Act :=
  let c := (chainOf ps).filterMap id
  if ps.length = 4 ∧ isChain c then Act.only { s with chain := c } .ok (chainData { s with chain := c })
  else Act.only s .badParam (chainData s)

end Sys2Proof.Machine
end

