-- ==== Sys2Proof/Machine/OrderRequests.lean ====
section
/-! DEFINITION. The requests of the order store (chapter 7): ENQUEUE, CANCEL and RESULTS. -/

namespace Sys2Proof.Machine

/-! ### ENQUEUE -/

/-- R119: the targets of an ENQUEUE as received. -/
def enqueueTargets (ps : List Byte) : List Nat := (List.range (byteAt ps 3)).map fun k => word16At ps (4 + 2 * k)

/-- R119: the coarse cap of an ENQUEUE as received. -/
def enqueueCap (ps : List Byte) : Nat := word16At ps (4 + 2 * byteAt ps 3)

/-- R119: the flow limit of an ENQUEUE as received. -/
def enqueueLimit (ps : List Byte) : Nat := word16At ps (6 + 2 * byteAt ps 3)

/-- R119: the order record that a taken ENQUEUE stores. -/
def enqueueOrder (ps : List Byte) : Order where
  tag := word16At ps 1
  targets := (enqueueTargets ps).map (clamp 100 60000)
  cap := clamp 100 1000 (enqueueCap ps)
  flowLimit := clampFlowLimit (enqueueLimit ps)
  nextIndex := 1
  aborted := false

/-- R119: a value of the ENQUEUE was brought into range. -/
def enqueueClamped (ps : List Byte) : Bool :=
  (enqueueTargets ps).any (fun v => clamp 100 60000 v != v) || clamp 100 1000 (enqueueCap ps) != enqueueCap ps ||
    (clampFlowLimit (enqueueLimit ps)).getD 0 != enqueueLimit ps

/-- R121: the wake of a parked spout, with the order already at the head of its queue. -/
def Spout.wake (p : Spout) : Spout :=
  (({ p with zero := p.zero.unpark }).enter .ready).examineZeroing

/-- R44, R120: a new head order reaches a spout in ZEROING with origin IDLE. Under a MAKEUP step, which keeps the state, the
report-due flag is left as it stands: DEDUCED, unsafe (notes/assumptions/29.md). -/
def Spout.readyWhileZeroing (p : Spout) : Spout :=
  match p.zero.step with
  | some st =>
    if st.kind = .makeup then { p with zero := { p.zero with step := some { st with origin := .ready } } }
    else (({ p with zero := { p.zero with step := none } }).enter .ready).examineZeroing
  | none => (p.enter .ready).examineZeroing

/-- R120: what a new head order does to the spout, by its state. -/
def Spout.newHead (p : Spout) : Spout :=
  match p.ctl.state with
  | .parked => p.wake
  | .idle => (p.enter .ready).examineZeroing
  | .zeroing => p.readyWhileZeroing
  | .faulted => { p with reportDue := true }
  | .ready => p
  | .armed => p
  | .awaitAir => p
  | .coarse => p
  | .fine => p
  | .tailing => p
  | .held => p

/-- R119, R120: an order joins a spout's queue. -/
def Spout.join (o : Order) (p : Spout) : Spout :=
  let q := { p with queue := p.queue ++ [o] }
  if p.queue.isEmpty then q.newHead else q

/-- R118: the state checks of ENQUEUE on a spout, and what a taken one does. -/
def enqueueChecked (i : SpoutId) (ps : List Byte) (s : State) : Act :=
  let tag := word16At ps 1
  let p := s.spout i
  let data := ReplyData.orderState tag (some i) true
  if p.ctl.state = .parked ∧ !s.configured i then Act.only s .notConfigured data
  else if p.queue.any fun o => o.tag == tag then Act.only s .tagInUse data
  else if 8 ≤ p.queue.length then Act.only s .queueFull data
  else if 16 ≤ s.heldOrders then Act.only s .poolFull data
  else Act.only (s.upd i (Spout.join (enqueueOrder ps))) (.clampedIf (enqueueClamped ps)) data

/-- R122: the tag of an ENQUEUE, 0 where its parameters are too short to carry one. -/
def enqueueTag (ps : List Byte) : Nat := if ps.length < 3 then 0 else word16At ps 1

/-- R118: the spout that an ENQUEUE names, none where its parameters carry none. -/
def enqueueSpout (ps : List Byte) : Option SpoutId := if ps.length = 0 then none else spoutOfField (byteAt ps 0)

/-- R118, second check: the compartment count, the tag and the parameter length. -/
def enqueueMalformed (ps : List Byte) : Bool :=
  byteAt ps 3 < 1 || 6 < byteAt ps 3 || enqueueTag ps == 0 || ps.length != 8 + 2 * byteAt ps 3

/-- R118: ENQUEUE. -/
def enqueueAct (ps : List Byte) (s : State) : Act :=
  if ps.length < 4 then Act.only s .badParam (.orderState (enqueueTag ps) (enqueueSpout ps) true)
  else
    match enqueueSpout ps with
    | none => Act.only s .badSpout (.orderState (enqueueTag ps) none false)
    | some i =>
      if enqueueMalformed ps then Act.only s .badParam (.orderState (enqueueTag ps) (some i) true)
      else enqueueChecked i ps s

/-! ### CANCEL -/

/-- R125, R128: an order leaves a queue and ORDER_RETIRED is raised with detail 3. -/
def Spout.removeOrder (tag : Nat) (p : Spout) : Spout :=
  { p with queue := p.queue.filter fun o => o.tag != tag }.raise .orderRetired 3

/-- R126: the head order has left a spout in READY. -/
def Spout.headLeftReady (p : Spout) : Spout := p.clearProceed.settle

/-- R45, R126: the head order has left a spout in ZEROING with origin READY. -/
def Spout.headLeftZeroing (p : Spout) : Spout :=
  let q := p.clearProceed
  { q with
    reportDue := true
    zero := { q.zero with step := q.zero.step.map fun st =>
      { st with origin := if q.queue.isEmpty then .idle else .ready } } }

/-- R129: CANCEL of the head order, by the spout's state; none where it is refused. -/
def Spout.cancelHead (tag : Nat) (p : Spout) : Option Spout :=
  match p.ctl.state with
  | .ready => some (p.removeOrder tag).headLeftReady
  | .zeroing => some (p.removeOrder tag).headLeftZeroing
  | .faulted => some { p.removeOrder tag with reportDue := true }
  | .parked => none
  | .idle => none
  | .armed => none
  | .awaitAir => none
  | .coarse => none
  | .fine => none
  | .tailing => none
  | .held => none

/-- R128: the order bearing the tag is the head order. -/
def Spout.headBears (tag : Nat) (p : Spout) : Bool :=
  match p.queue with
  | o :: _ => o.tag == tag
  | [] => false

/-- R128: CANCEL on a spout. -/
def cancelSpout (i : SpoutId) (tag : Nat) (s : State) : Act :=
  let p := s.spout i
  let data := ReplyData.orderState tag (some i) true
  if !p.queue.any (fun o => o.tag == tag) then Act.only s .noSuchTag data
  else if p.headBears tag then
    match p.cancelHead tag with
    | some q => Act.only (s.upd i fun _ => q) .ok data
    | none => Act.only s .refusedState data
  else Act.only (s.upd i (Spout.removeOrder tag)) .ok data

/-- R128: CANCEL. -/
def cancelAct (ps : List Byte) (s : State) : Act :=
  if ps.length ≠ 3 then Act.only s .badParam (.orderState 0 none true)
  else
    match spoutOfField (byteAt ps 0) with
    | none => Act.only s .badSpout (.orderState (word16At ps 1) none false)
    | some i => cancelSpout i (word16At ps 1) s

/-! ### RESULTS -/

/-- R185: the fifteen bytes of a result record. -/
def Result.bytes (r : Result) : List Byte :=
  be16 r.tag ++ [byte (r.endReason.code * 16 + r.index), byte r.flags] ++ be16 r.targetKg ++ be32 r.finalG ++
    be16 r.tau ++ be24 (min 16777215 r.duration)

/-- R132: the records found from a position onward, newest first, no more than `count`. -/
def resultsFrom (ring : List Result) (first count : Nat) : List Result := (ring.reverse.drop first).take count

/-- R132: the result number of the newest record, or 0 with the ring empty. -/
def newestNumber (ring : List Result) : Byte :=
  match ring.getLast? with
  | some r => r.number
  | none => 0

/-- R185: the data of RESULTS: the header and at most two records. -/
def resultsData (ring : List Result) (first count : Nat) : List Byte :=
  let found := resultsFrom ring first count
  [byte (ring.length * 16 + (found.length - 2)), newestNumber ring] ++ (found.take 2).flatMap Result.bytes

/-- R132: RESULTS. -/
def resultsAct (ps : List Byte) (s : State) : Act :=
  if ps.length ≠ 3 then Act.only s .badParam (.bytes [0, 0])
  else
    match spoutOfField (byteAt ps 0) with
    | none => Act.only s .badSpout (.bytes [0, 0])
    | some i =>
      let ring := (s.spout i).ring
      if 7 < byteAt ps 1 ∨ byteAt ps 2 = 0 ∨ 8 < byteAt ps 2 then
        Act.only s .badParam (.bytes [byte (ring.length * 16), newestNumber ring])
      else Act.only s .ok (.bytes (resultsData ring (byteAt ps 1) (byteAt ps 2)))

end Sys2Proof.Machine
end

