-- ==== Sys2Proof/Machine/Reset.lean ====
section
/-! DEFINITION. The two resets: the power-on reset (R159 and the Power-on column of every chapter) and what RESTART does when its
response's transmission ends (R184 and the RESTART column of every chapter). -/

namespace Sys2Proof.Machine

/-! ### RESTART, block by block -/

/-- R1, RESTART column. -/
def Channel.restart (_c : Channel) : Channel := Channel.reset

/-- R22, R34: a PENDING bank becomes STANDBY_VALID. -/
def BankStatus.restart : BankStatus → BankStatus
  | .pending => .standbyValid
  | .active => .active
  | .standbyUnchecked => .standbyUnchecked
  | .standbyValid => .standbyValid

/-- R22, RESTART column. -/
def CurveStore.restart (c : CurveStore) : CurveStore :=
  { c with statusA := c.statusA.restart, statusB := c.statusB.restart }

/-- R22, R26, RESTART column: the window closes and keeps its range. -/
def CurveWindow.restart (w : CurveWindow) : CurveWindow := { w with isOpen := false }

/-- R36, RESTART column. -/
def ZeroTracker.restart (z : ZeroTracker) : ZeroTracker :=
  { ZeroTracker.reset with zero := z.zero, cadence := z.cadence, owed := z.owed, makeupOwed := z.makeupOwed }

/-- R54, R55, R80, R98, R134, R154, RESTART columns: tau and the regulator ratio are kept. -/
def Control.restart (c : Control) : Control := { Control.reset with tau := c.tau, ratio := c.ratio }

/-- R55, R115, R134, R159: a spout after RESTART, its gate order pending and its report due. -/
def Spout.restart (p : Spout) : Spout :=
  { Spout.reset with
    chan := p.chan.restart
    curve := p.curve.restart
    zero := p.zero.restart
    ctl := p.ctl.restart
    par := p.par
    reportDue := true
    gatePending := true }

/-- R145, RESTART column: the entry is kept, and the lane state starts again. -/
def Lane.restart (e : Lane) : Lane :=
  { e with
    crc := Counter.zero
    gap := Counter.zero
    dup := Counter.zero
    age := 0
    stale := false
    lastSeq := none
    latest := 0 }

/-- R184: the RESTART acts. What is kept is the configuration, the address, the frames in transmission on the two lines
(R159) and the model's own fields. -/
def restartNow (s : State) : State :=
  { State.reset with
    spouts := s.spouts.map Spout.restart
    window := s.window.restart
    grantCount := s.grantCount
    chain := s.chain
    lanes := s.lanes.map (Option.map Lane.restart)
    silenceK := s.silenceK
    address := s.address
    resetCause := .restart
    plantLine := s.plantLine
    fieldLine := s.fieldLine
    pending := s.pending
    freeCount := s.freeCount }

/-! ### Power-on -/

/-- A frame in transmission is completed across a power-on reset (R159); its end brings no RESTART, since the restart that was
pending is gone (R184). -/
def Outgoing.survive (o : Outgoing) : Outgoing := { o with isRestart := false }

/-- R159: a power-on reset. The frames in transmission are completed; the model's own fields are kept. -/
def powerOn (s : State) : State :=
  { State.reset with
    plantLine := s.plantLine.map Outgoing.survive
    fieldLine := s.fieldLine.map Outgoing.survive
    pending := s.pending
    freeCount := s.freeCount }

end Sys2Proof.Machine
end

