-- ==== Sys2Proof/Machine/SpoutRequests.lean ====
section
/-! DEFINITION. The spout requests (chapter 4) and ZERO_NOW (R50): PROCEED, ABORT, HOLD, RESUME, PARK, UNPARK, CLEAR. Each is
decided by the spout's state as it stands when the request is taken (R57). -/

namespace Sys2Proof.Machine

/-- R57, R175: a spout request carries one spout number. -/
def onSpout (ps : List Byte) (act : SpoutId → State → State × Status) (s : State) : Act :=
  if ps.length ≠ 1 then Act.only s .badParam (.spoutState none)
  else
    match spoutOfField (byteAt ps 0) with
    | none => Act.only s .badSpout (.spoutState none)
    | some i => Act.only (act i s).1 (act i s).2 (.spoutState (some i))

/-! ### PROCEED -/

/-- R47: the pending proceed mark is set. -/
def Spout.markProceed (p : Spout) : Spout := { p with zero := { p.zero with pendingProceed := true } }

/-- R44, R60: PROCEED in ZEROING, by the step's origin and kind. -/
def proceedZeroing (i : SpoutId) (s : State) : State × Status :=
  match (s.spout i).zero.step with
  | some { origin := .ready, kind := .makeup, .. } => (s.upd i Spout.markProceed, .ok)
  | some { origin := .ready, kind := .normal, .. } => (openCompartment i s, .ok)
  | some { origin := .ready, kind := .zeroNow, .. } => (openCompartment i s, .ok)
  | some { origin := .idle, .. } => (s, .refusedState)
  | none => (s, .refusedState)

/-- R60: PROCEED. -/
def proceed (i : SpoutId) (s : State) : State × Status :=
  match (s.spout i).ctl.state with
  | .ready => if (s.spout i).zero.makeupOwed then (s.upd i Spout.markProceed, .ok) else (openCompartment i s, .ok)
  | .zeroing => proceedZeroing i s
  | .parked => (s, .refusedState)
  | .idle => (s, .refusedState)
  | .armed => (s, .refusedState)
  | .awaitAir => (s, .refusedState)
  | .coarse => (s, .refusedState)
  | .fine => (s, .refusedState)
  | .tailing => (s, .refusedState)
  | .held => (s, .refusedState)
  | .faulted => (s, .refusedState)

/-! ### ABORT -/

/-- R68, steps 3 and 4: the result is recorded and the spout moves on. -/
def Spout.endAborted (p : Spout) : Spout := (p.recordResult .aborted).moveOn

/-- R68: ABORT in ARMED or AWAIT_AIR. -/
def abortWaiting (i : SpoutId) (s : State) : State :=
  (releaseAir i (s.upd i Spout.markAborted)).upd i Spout.endAborted

/-- R69: ABORT in COARSE, FINE or HELD. -/
def abortLoading (i : SpoutId) (s : State) : State := enterTailing .abort i (s.upd i Spout.markAborted)

/-- R70: ABORT in TAILING. -/
def Spout.abortTail (p : Spout) : Spout :=
  let q := p.markAborted
  { q with ctl := { q.ctl with endReason := some .abort } }

/-- R71: ABORT in READY. -/
def Spout.abortReady (p : Spout) : Spout := ((p.retireHead 2).clearProceed).settle

/-- R68 to R71: ABORT. -/
def abort (i : SpoutId) (s : State) : State × Status :=
  match (s.spout i).ctl.state with
  | .armed => (abortWaiting i s, .ok)
  | .awaitAir => (abortWaiting i s, .ok)
  | .coarse => (abortLoading i s, .ok)
  | .fine => (abortLoading i s, .ok)
  | .held => (abortLoading i s, .ok)
  | .tailing =>
    if (s.spout i).ctl.endReason = some .abort then (s, .okNoop) else (s.upd i Spout.abortTail, .ok)
  | .ready => (s.upd i Spout.abortReady, .ok)
  | .parked => (s, .refusedState)
  | .idle => (s, .refusedState)
  | .zeroing => (s, .refusedState)
  | .faulted => (s, .refusedState)

/-! ### HOLD and RESUME -/

/-- R63: HOLD. -/
def hold (i : SpoutId) (s : State) : State × Status :=
  match (s.spout i).ctl.state with
  | .armed => (enterHeld .command i s, .ok)
  | .awaitAir => (enterHeld .command i s, .ok)
  | .coarse => (enterHeld .command i s, .ok)
  | .fine => (enterHeld .command i s, .ok)
  | .parked => (s, .refusedState)
  | .idle => (s, .refusedState)
  | .ready => (s, .refusedState)
  | .zeroing => (s, .refusedState)
  | .tailing => (s, .refusedState)
  | .held => (s, .refusedState)
  | .faulted => (s, .refusedState)

/-- R66: the held reason becomes none and the spout enters AWAIT_AIR. -/
def Spout.leaveHeld (p : Spout) : Spout :=
  ({ p with ctl := { p.ctl with heldReason := none } }).enter .awaitAir

/-- R66: a HELD spout resumes: the interlocks are examined, the probe first, and then it asks for air. -/
def resumeHeld (i : SpoutId) (s : State) : State :=
  let t := s.upd i Spout.leaveHeld
  if !t.probeClear i then probeCondition i t
  else if !t.bayPermissive i then bayCondition i t
  else askForAir i t

/-- R66: RESUME. -/
def resume (i : SpoutId) (s : State) : State × Status :=
  if (s.spout i).ctl.state = .held then
    if (s.spout i).ctl.heldReason = some .bay ∧ !s.bayPermissive i then (s, .refusedState) else (resumeHeld i s, .ok)
  else (s, .refusedState)

/-! ### PARK, UNPARK, CLEAR, ZERO_NOW -/

/-- R59: the spout goes to PARKED, any step discarded and any retry wait ended. -/
def Spout.park (p : Spout) : Spout :=
  ({ p with zero := { p.zero with step := none, retryWait := none } }).enter .parked

/-- R59: PARK. -/
def park (i : SpoutId) (s : State) : State × Status :=
  match (s.spout i).ctl.state with
  | .idle => (s.upd i Spout.park, .ok)
  | .ready => (s, .okNoop)
  | .zeroing =>
    match (s.spout i).zero.step with
    | some { origin := .ready, .. } => (s, .okNoop)
    | some { origin := .idle, .. } => (s.upd i Spout.park, .ok)
    | none => (s.upd i Spout.park, .ok)
  | .parked => (s, .refusedState)
  | .armed => (s, .refusedState)
  | .awaitAir => (s, .refusedState)
  | .coarse => (s, .refusedState)
  | .fine => (s, .refusedState)
  | .tailing => (s, .refusedState)
  | .held => (s, .refusedState)
  | .faulted => (s, .refusedState)

/-- R58: the three steps of a taken UNPARK. -/
def Spout.unpark (p : Spout) : Spout := (({ p with zero := p.zero.unpark }).enter .idle).examineZeroing

/-- R58: UNPARK. -/
def unpark (i : SpoutId) (s : State) : State × Status :=
  if (s.spout i).ctl.state = .parked then
    if s.configured i then (s.upd i Spout.unpark, .ok) else (s, .notConfigured)
  else (s, .refusedState)

/-- R76, R112: the fault kind becomes none, the stuck-gate run is 0, and the spout moves on. -/
def Spout.clearFault (p : Spout) : Spout :=
  ({ p with ctl := { p.ctl with faultKind := none, stuckRun := 0 } }).moveOn

/-- R76: CLEAR. -/
def clear (i : SpoutId) (s : State) : State × Status :=
  if (s.spout i).ctl.state = .faulted then
    if (s.spout i).ctl.faultKind = some .gateStuck ∧ !s.gateReadsShut i then (s, .refusedState)
    else (s.upd i Spout.clearFault, .ok)
  else (s, .refusedState)

/-- R50: ZERO_NOW. -/
def zeroNow (i : SpoutId) (s : State) : State × Status :=
  match (s.spout i).ctl.state with
  | .idle => (s.upd i Spout.zeroNow, .ok)
  | .ready => (s.upd i Spout.zeroNow, .ok)
  | .parked => (s, .refusedState)
  | .zeroing => (s, .refusedState)
  | .armed => (s, .refusedState)
  | .awaitAir => (s, .refusedState)
  | .coarse => (s, .refusedState)
  | .fine => (s, .refusedState)
  | .tailing => (s, .refusedState)
  | .held => (s, .refusedState)
  | .faulted => (s, .refusedState)

/-! ### The handlers -/

/-- R60. -/
def proceedAct (ps : List Byte) (s : State) : Act := onSpout ps proceed s

/-- R68 to R71. -/
def abortAct (ps : List Byte) (s : State) : Act := onSpout ps abort s

/-- R63. -/
def holdAct (ps : List Byte) (s : State) : Act := onSpout ps hold s

/-- R66. -/
def resumeAct (ps : List Byte) (s : State) : Act := onSpout ps resume s

/-- R59. -/
def parkAct (ps : List Byte) (s : State) : Act := onSpout ps park s

/-- R58. -/
def unparkAct (ps : List Byte) (s : State) : Act := onSpout ps unpark s

/-- R76. -/
def clearAct (ps : List Byte) (s : State) : Act := onSpout ps clear s

/-- R50. -/
def zeroNowAct (ps : List Byte) (s : State) : Act := onSpout ps zeroNow s

end Sys2Proof.Machine
end

