-- ==== Sys2Proof/Machine/Ports.lean ====
section
/-! DEFINITION. The commands of the ports: POWER_ON_RESET (R159), F_PORT_FRAME (R161), P_PORT_FRAME (R162) with the choice of a
request's handler by its code (R175), P_PORT_LINE_FREE (R165, R184) and F_PORT_LINE_FREE (R166). -/

namespace Sys2Proof.Machine

/-- R175: the handler of a request. -/
def handler : RequestKind → List Byte → State → Act
  | .ident => identAct
  | .assign => assignAct
  | .keepalive => keepaliveAct
  | .setParam => setParamAct
  | .getParam => getParamAct
  | .status => statusAct
  | .counters => countersAct
  | .restart => restartAct
  | .openWindow => openWindowAct
  | .writePoints => writePointsAct
  | .writeMore => writeMoreAct
  | .readPoints => readPointsAct
  | .readMore => readMoreAct
  | .activate => activateAct
  | .mapLane => mapLaneAct
  | .unmapLane => unmapLaneAct
  | .setChain => setChainAct
  | .enqueue => enqueueAct
  | .cancel => cancelAct
  | .results => resultsAct
  | .proceed => proceedAct
  | .abort => abortAct
  | .hold => holdAct
  | .resume => resumeAct
  | .park => parkAct
  | .unpark => unparkAct
  | .clear => clearAct
  | .zeroNow => zeroNowAct

/-- R175: what a request of any code does. -/
def perform (code : Byte) (ps : List Byte) (s : State) : Act :=
  match requestKind code with
  | some k => handler k ps s
  | none => unknownAct s

/-- The parameter bytes of a REQUEST frame: those between its parameter length and its CRC (R172). -/
def requestParams (run : Run) : List Byte := (run.drop 5).dropLast

/-- R162: a REQUEST frame of six bytes or more. -/
def requestRun (run : Run) (s : State) : State :=
  if !s.isAddressed (run.getD 1 0) (run.getD 3 0) then passToField run s
  else if !goodCrc run then countCrc s
  else if 32 < byteAt run 4 ∨ run.length ≠ 6 + byteAt run 4 then countFraming s
  else reachHandler (run.getD 2 0) (run.getD 3 0) (perform (run.getD 3 0) (requestParams run)) s

/-- R162: a REQUEST frame of 4 or 5 bytes. -/
def shortRequestRun (run : Run) (s : State) : State :=
  if s.address ≠ 15 ∧ byteAt run 1 = s.address then countFraming s else passToField run s

/-- R161, R162: a run of bytes completes at the P-port. -/
def pPortRun (run : Run) (s : State) : State :=
  if !isFrame run then countFraming s
  else if run.getD 0 0 = typeRequest then
    if run.length < 6 then shortRequestRun run s else requestRun run s
  else passToField run s

/-- R165, R184: the transmission on the plant-bound line ends; the RESTART acts if it was its response's. -/
def endPlantFrame (s : State) : State :=
  match s.plantLine with
  | some { isRestart := true, .. } => restartNow { s with plantLine := none }
  | some { isRestart := false, .. } => { s with plantLine := none }
  | none => s

/-- The outcome of a command: its effect, and then both arbiters choose where their lines stand free (R165, R166). -/
def finish (s : State) : Host.Outcome State Fault Refusal := .next (serveLines s)

/-- POWER_ON_RESET (R159). -/
def execPowerOnReset (s : State) : Host.Outcome State Fault Refusal := finish (powerOn s)

/-- F_PORT_FRAME (R161). -/
def execFPortFrame (run : Run) (s : State) : Host.Outcome State Fault Refusal := finish (fPortRun run s)

/-- P_PORT_FRAME (R162). -/
def execPPortFrame (run : Run) (s : State) : Host.Outcome State Fault Refusal := finish (pPortRun run s)

/-- P_PORT_LINE_FREE (R165). -/
def execPPortLineFree (s : State) : Host.Outcome State Fault Refusal := finish (endPlantFrame s)

/-- F_PORT_LINE_FREE (R166). -/
def execFPortLineFree (s : State) : Host.Outcome State Fault Refusal := finish { s with fieldLine := none }

end Sys2Proof.Machine
end

