-- ==== Sys2Proof/Machine/Events.lean ====
section
/-! DEFINITION. The commands that are conditions: of the sample count (R7, R38, R41, R46, R99, R169, R109, R110, R113, R141, R154,
R87, R88) and of real time (R9, R148, R171). A condition of the sample count takes place when the command's one count brings
it to the value that its rule names; where the count does not reach it, the condition does not stand and the command has no
effect (R77; notes/assumptions/3.md). The F-port frame whose samples reach a condition brings it about by itself, through
the same functions. -/

namespace Sys2Proof.Machine

/-- SAMPLE_LOSS (R5, R7): a missing sample on the spout's FORCE lane takes the run above 4. -/
def execSampleLoss (sp : SpoutId) (s : State) : Host.Outcome State Fault Refusal :=
  finish
    (match s.laneOf sp .force with
     | some l => if 4 ≤ (s.spout sp).chan.missingRun then missingSample l sp s else s
     | none => s)

/-- STARVATION (R9). -/
def execStarvation (sp : SpoutId) (s : State) : Host.Outcome State Fault Refusal := finish (starve sp s)

/-- LANE_STALE (R148): a lane without an entry and a FORCE lane have no such condition (notes/assumptions/4.md). -/
def execLaneStale (lane : LaneId) (s : State) : Host.Outcome State Fault Refusal := finish (laneGoesStale lane s)

/-- DUE_POINT (R38, R39). -/
def execDuePoint (sp : SpoutId) (s : State) : Host.Outcome State Fault Refusal :=
  finish (if (s.spout sp).dueReached then duePoint sp s else s)

/-- STEP_COMPLETE (R41, R42, R48, R50): a last sample of this raw value passes and brings the step to its length. -/
def execStepComplete (sp : SpoutId) (raw : BitVec 20) (s : State) : Host.Outcome State Fault Refusal :=
  finish
    (if s.completesStep sp raw.toNat .ok then completeStep sp (s.upd sp (Spout.takeSample raw.toNat)) else s)

/-- RETRY_WAIT_END (R46). -/
def execRetryWaitEnd (sp : SpoutId) (s : State) : Host.Outcome State Fault Refusal :=
  finish (if (s.spout sp).retryEnds then endRetryWait sp s else s)

/-- PACING_POINT (R99); a spout without a FORCE lane has no samples and so none (R150). -/
def execPacingPoint (sp : SpoutId) (s : State) : Host.Outcome State Fault Refusal :=
  finish (if s.hasSamples sp ∧ (s.spout sp).pacingReached then s.upd sp Spout.pace else s)

/-- REPORT_INTERVAL_EXPIRY (R169); a spout without a FORCE lane has no samples and so no reports paced by them (R150). -/
def execReportIntervalExpiry (sp : SpoutId) (s : State) : Host.Outcome State Fault Refusal :=
  finish (if s.hasSamples sp ∧ (s.spout sp).reportReached then s.upd sp Spout.reportExpires else s)

/-- FLOOD_DROP (R109). -/
def execFloodDrop (sp : SpoutId) (s : State) : Host.Outcome State Fault Refusal :=
  finish (if (s.spout sp).floodDropReached then s.upd sp Spout.floodDrop else s)

/-- FLOOD_CLOSURE (R110). -/
def execFloodClosure (sp : SpoutId) (s : State) : Host.Outcome State Fault Refusal :=
  finish (if (s.spout sp).floodClosureReached then floodClosure sp s else s)

/-- GATE_STUCK (R113). -/
def execGateStuck (sp : SpoutId) (s : State) : Host.Outcome State Fault Refusal :=
  finish (if s.stuckReached sp then enterFault .gateStuck sp s else s)

/-- AIR_FAIL (R141). -/
def execAirFail (sp : SpoutId) (s : State) : Host.Outcome State Fault Refusal :=
  finish (if (s.spout sp).airFailReached then enterFault .airFail sp s else s)

/-- AIR_LOST (R154). -/
def execAirLost (sp : SpoutId) (s : State) : Host.Outcome State Fault Refusal :=
  finish (if s.airLostReached sp then enterHeld .air sp s else s)

/-- TAIL_SETTLED (R87, R90). -/
def execTailSettled (sp : SpoutId) (s : State) : Host.Outcome State Fault Refusal :=
  finish (if (s.spout sp).settleReached then s.upd sp (Spout.endTail false) else s)

/-- TAIL_TIMEOUT (R88, R90). -/
def execTailTimeout (sp : SpoutId) (s : State) : Host.Outcome State Fault Refusal :=
  finish (if (s.spout sp).timeoutReached then s.upd sp (Spout.endTail true) else s)

/-- SILENCE_EXPIRY (R171): a timer that is stopped does not expire. -/
def execSilenceExpiry (s : State) : Host.Outcome State Fault Refusal :=
  finish (if s.timer.isSome then expireSilence s else s)

end Sys2Proof.Machine
end

