-- ==== Sys2Proof/Machine/Requests.lean ====
section
/-! DEFINITION. The twenty-eight request commands and UNKNOWN_REQUEST. Each is the arrival at the P-port of a well-made REQUEST
frame with the request's code: its course is R162, R167 and R174, and its effect is its handler's. -/

namespace Sys2Proof.Machine

/-- UNKNOWN_REQUEST (R175): a request of this code. A code of the table names its own request. -/
def execUnknownRequest (h : ReqHeader) (code : Byte) (ps : List Byte) (s : State) : Host.Outcome State Fault Refusal :=
  finish (requestCourse h code ps (perform code ps) s)

/-- IDENT (R177). -/
def execIdent (h : ReqHeader) (ps : List Byte) (s : State) : Host.Outcome State Fault Refusal :=
  finish (requestCourse h RequestKind.ident.code ps (identAct ps) s)

/-- ASSIGN (R178). -/
def execAssign (h : ReqHeader) (ps : List Byte) (s : State) : Host.Outcome State Fault Refusal :=
  finish (requestCourse h RequestKind.assign.code ps (assignAct ps) s)

/-- KEEPALIVE (R179). -/
def execKeepalive (h : ReqHeader) (ps : List Byte) (s : State) : Host.Outcome State Fault Refusal :=
  finish (requestCourse h RequestKind.keepalive.code ps (keepaliveAct ps) s)

/-- SET_PARAM (R180, R181). -/
def execSetParam (h : ReqHeader) (ps : List Byte) (s : State) : Host.Outcome State Fault Refusal :=
  finish (requestCourse h RequestKind.setParam.code ps (setParamAct ps) s)

/-- GET_PARAM (R182). -/
def execGetParam (h : ReqHeader) (ps : List Byte) (s : State) : Host.Outcome State Fault Refusal :=
  finish (requestCourse h RequestKind.getParam.code ps (getParamAct ps) s)

/-- STATUS (R183). -/
def execStatus (h : ReqHeader) (ps : List Byte) (s : State) : Host.Outcome State Fault Refusal :=
  finish (requestCourse h RequestKind.status.code ps (statusAct ps) s)

/-- COUNTERS (R157). -/
def execCounters (h : ReqHeader) (ps : List Byte) (s : State) : Host.Outcome State Fault Refusal :=
  finish (requestCourse h RequestKind.counters.code ps (countersAct ps) s)

/-- RESTART (R184). -/
def execRestart (h : ReqHeader) (ps : List Byte) (s : State) : Host.Outcome State Fault Refusal :=
  finish (requestCourse h RequestKind.restart.code ps (restartAct ps) s)

/-- OPEN_WINDOW (R25). -/
def execOpenWindow (h : ReqHeader) (ps : List Byte) (s : State) : Host.Outcome State Fault Refusal :=
  finish (requestCourse h RequestKind.openWindow.code ps (openWindowAct ps) s)

/-- WRITE_POINTS (R27, R28). -/
def execWritePoints (h : ReqHeader) (ps : List Byte) (s : State) : Host.Outcome State Fault Refusal :=
  finish (requestCourse h RequestKind.writePoints.code ps (writePointsAct ps) s)

/-- WRITE_MORE (R27, R28). -/
def execWriteMore (h : ReqHeader) (ps : List Byte) (s : State) : Host.Outcome State Fault Refusal :=
  finish (requestCourse h RequestKind.writeMore.code ps (writeMoreAct ps) s)

/-- READ_POINTS (R29). -/
def execReadPoints (h : ReqHeader) (ps : List Byte) (s : State) : Host.Outcome State Fault Refusal :=
  finish (requestCourse h RequestKind.readPoints.code ps (readPointsAct ps) s)

/-- READ_MORE (R29). -/
def execReadMore (h : ReqHeader) (ps : List Byte) (s : State) : Host.Outcome State Fault Refusal :=
  finish (requestCourse h RequestKind.readMore.code ps (readMoreAct ps) s)

/-- ACTIVATE (R30). -/
def execActivate (h : ReqHeader) (ps : List Byte) (s : State) : Host.Outcome State Fault Refusal :=
  finish (requestCourse h RequestKind.activate.code ps (activateAct ps) s)

/-- MAP_LANE (R149). -/
def execMapLane (h : ReqHeader) (ps : List Byte) (s : State) : Host.Outcome State Fault Refusal :=
  finish (requestCourse h RequestKind.mapLane.code ps (mapLaneAct ps) s)

/-- UNMAP_LANE (R150). -/
def execUnmapLane (h : ReqHeader) (ps : List Byte) (s : State) : Host.Outcome State Fault Refusal :=
  finish (requestCourse h RequestKind.unmapLane.code ps (unmapLaneAct ps) s)

/-- SET_CHAIN (R135). -/
def execSetChain (h : ReqHeader) (ps : List Byte) (s : State) : Host.Outcome State Fault Refusal :=
  finish (requestCourse h RequestKind.setChain.code ps (setChainAct ps) s)

/-- ENQUEUE (R118). -/
def execEnqueue (h : ReqHeader) (ps : List Byte) (s : State) : Host.Outcome State Fault Refusal :=
  finish (requestCourse h RequestKind.enqueue.code ps (enqueueAct ps) s)

/-- CANCEL (R128). -/
def execCancel (h : ReqHeader) (ps : List Byte) (s : State) : Host.Outcome State Fault Refusal :=
  finish (requestCourse h RequestKind.cancel.code ps (cancelAct ps) s)

/-- RESULTS (R132). -/
def execResults (h : ReqHeader) (ps : List Byte) (s : State) : Host.Outcome State Fault Refusal :=
  finish (requestCourse h RequestKind.results.code ps (resultsAct ps) s)

/-- PROCEED (R60). -/
def execProceed (h : ReqHeader) (ps : List Byte) (s : State) : Host.Outcome State Fault Refusal :=
  finish (requestCourse h RequestKind.proceed.code ps (proceedAct ps) s)

/-- ABORT (R68 to R71). -/
def execAbort (h : ReqHeader) (ps : List Byte) (s : State) : Host.Outcome State Fault Refusal :=
  finish (requestCourse h RequestKind.abort.code ps (abortAct ps) s)

/-- HOLD (R63). -/
def execHold (h : ReqHeader) (ps : List Byte) (s : State) : Host.Outcome State Fault Refusal :=
  finish (requestCourse h RequestKind.hold.code ps (holdAct ps) s)

/-- RESUME (R66). -/
def execResume (h : ReqHeader) (ps : List Byte) (s : State) : Host.Outcome State Fault Refusal :=
  finish (requestCourse h RequestKind.resume.code ps (resumeAct ps) s)

/-- PARK (R59). -/
def execPark (h : ReqHeader) (ps : List Byte) (s : State) : Host.Outcome State Fault Refusal :=
  finish (requestCourse h RequestKind.park.code ps (parkAct ps) s)

/-- UNPARK (R58). -/
def execUnpark (h : ReqHeader) (ps : List Byte) (s : State) : Host.Outcome State Fault Refusal :=
  finish (requestCourse h RequestKind.unpark.code ps (unparkAct ps) s)

/-- CLEAR (R76). -/
def execClear (h : ReqHeader) (ps : List Byte) (s : State) : Host.Outcome State Fault Refusal :=
  finish (requestCourse h RequestKind.clear.code ps (clearAct ps) s)

/-- ZERO_NOW (R50). -/
def execZeroNow (h : ReqHeader) (ps : List Byte) (s : State) : Host.Outcome State Fault Refusal :=
  finish (requestCourse h RequestKind.zeroNow.code ps (zeroNowAct ps) s)

end Sys2Proof.Machine
end

