-- ==== Sys2Proof/Machine/Dispatch.lean ====
section
/-! DEFINITION. What each command does to everything but the queue of waiting commands: one arm for each row of
spec/opcode_table.json. -/

namespace Sys2Proof.Machine

/-- The effect of a command on everything but the queue. -/
def exec (i : Instr) (s : State) : Host.Outcome State Fault Refusal :=
  match i with
  | .powerOnReset => Sys2Proof.Machine.execPowerOnReset s
  | .fPortFrame run => Sys2Proof.Machine.execFPortFrame run s
  | .sampleLoss sp => Sys2Proof.Machine.execSampleLoss sp s
  | .starvation sp => Sys2Proof.Machine.execStarvation sp s
  | .laneStale lane => Sys2Proof.Machine.execLaneStale lane s
  | .duePoint sp => Sys2Proof.Machine.execDuePoint sp s
  | .stepComplete sp raw => Sys2Proof.Machine.execStepComplete sp raw s
  | .retryWaitEnd sp => Sys2Proof.Machine.execRetryWaitEnd sp s
  | .pacingPoint sp => Sys2Proof.Machine.execPacingPoint sp s
  | .reportIntervalExpiry sp => Sys2Proof.Machine.execReportIntervalExpiry sp s
  | .floodDrop sp => Sys2Proof.Machine.execFloodDrop sp s
  | .floodClosure sp => Sys2Proof.Machine.execFloodClosure sp s
  | .gateStuck sp => Sys2Proof.Machine.execGateStuck sp s
  | .airFail sp => Sys2Proof.Machine.execAirFail sp s
  | .airLost sp => Sys2Proof.Machine.execAirLost sp s
  | .tailSettled sp => Sys2Proof.Machine.execTailSettled sp s
  | .tailTimeout sp => Sys2Proof.Machine.execTailTimeout sp s
  | .silenceExpiry => Sys2Proof.Machine.execSilenceExpiry s
  | .pPortFrame run => Sys2Proof.Machine.execPPortFrame run s
  | .unknownRequest h code ps => Sys2Proof.Machine.execUnknownRequest h code ps s
  | .ident h ps => Sys2Proof.Machine.execIdent h ps s
  | .assign h ps => Sys2Proof.Machine.execAssign h ps s
  | .keepalive h ps => Sys2Proof.Machine.execKeepalive h ps s
  | .setParam h ps => Sys2Proof.Machine.execSetParam h ps s
  | .getParam h ps => Sys2Proof.Machine.execGetParam h ps s
  | .status h ps => Sys2Proof.Machine.execStatus h ps s
  | .counters h ps => Sys2Proof.Machine.execCounters h ps s
  | .restart h ps => Sys2Proof.Machine.execRestart h ps s
  | .openWindow h ps => Sys2Proof.Machine.execOpenWindow h ps s
  | .writePoints h ps => Sys2Proof.Machine.execWritePoints h ps s
  | .writeMore h ps => Sys2Proof.Machine.execWriteMore h ps s
  | .readPoints h ps => Sys2Proof.Machine.execReadPoints h ps s
  | .readMore h ps => Sys2Proof.Machine.execReadMore h ps s
  | .activate h ps => Sys2Proof.Machine.execActivate h ps s
  | .mapLane h ps => Sys2Proof.Machine.execMapLane h ps s
  | .unmapLane h ps => Sys2Proof.Machine.execUnmapLane h ps s
  | .setChain h ps => Sys2Proof.Machine.execSetChain h ps s
  | .enqueue h ps => Sys2Proof.Machine.execEnqueue h ps s
  | .cancel h ps => Sys2Proof.Machine.execCancel h ps s
  | .results h ps => Sys2Proof.Machine.execResults h ps s
  | .proceed h ps => Sys2Proof.Machine.execProceed h ps s
  | .abort h ps => Sys2Proof.Machine.execAbort h ps s
  | .hold h ps => Sys2Proof.Machine.execHold h ps s
  | .resume h ps => Sys2Proof.Machine.execResume h ps s
  | .park h ps => Sys2Proof.Machine.execPark h ps s
  | .unpark h ps => Sys2Proof.Machine.execUnpark h ps s
  | .clear h ps => Sys2Proof.Machine.execClear h ps s
  | .zeroNow h ps => Sys2Proof.Machine.execZeroNow h ps s
  | .pPortLineFree => Sys2Proof.Machine.execPPortLineFree s
  | .fPortLineFree => Sys2Proof.Machine.execFPortLineFree s

end Sys2Proof.Machine
end

