-- ==== Sys2Proof/Machine/Clock.lean ====
section
/-! DEFINITION. Real time: one millisecond ages every mapped lane up to its role's limit (R145) and the running silence timer
(R170). A lane whose age reaches its limit is starved (R9) or stale (R148), and a timer that reaches its timeout expires
(R171). Where several of these come on the same millisecond, a free value picks the order. -/

namespace Sys2Proof.Machine

/-- R145: the freshness limit of a role, in ms. -/
def Role.limit : Role → Nat
  | .force => 50
  | .gate => 200
  | .air => 200
  | .probe => 200
  | .bay => 200

/-- R145: a lane one millisecond older; its age stops at the limit. -/
def Lane.older (e : Lane) : Lane := { e with age := min e.role.limit (e.age + 1) }

/-- R9, R148: the next millisecond brings the lane to its limit. -/
def Lane.expires (e : Lane) : Bool := e.age + 1 == e.role.limit

/-- What may come about as a millisecond passes. -/
inductive Expiry where
  | lane (l : LaneId)
  | silence
deriving DecidableEq, Repr

/-- R9, R148: a lane's expiry. -/
def expireLane (l : LaneId) (s : State) : State :=
  match s.lane l with
  | none => s
  | some e =>
    match e.role with
    | .force => starve e.spout s
    | .gate => laneGoesStale l s
    | .air => laneGoesStale l s
    | .probe => laneGoesStale l s
    | .bay => laneGoesStale l s

/-- An expiry acts. -/
def expire (x : Expiry) (s : State) : State :=
  match x with
  | .lane l => expireLane l s
  | .silence => if s.timer.isSome then expireSilence s else s

/-- R171: the next millisecond brings the running timer to its timeout. -/
def State.silenceExpires (s : State) : Bool :=
  match s.timer with
  | some t => silenceTimeout s.silenceK ≤ t + 1
  | none => false

/-- What comes about on the next millisecond. -/
def State.expiries (s : State) : List Expiry :=
  (((List.finRange 32).filter fun l => (s.lane l).any Lane.expires).map Expiry.lane) ++
    if s.silenceExpires then [.silence] else []

/-- Every lane and the timer one millisecond older. -/
def State.older (s : State) : State :=
  { s with lanes := s.lanes.map (Option.map Lane.older), timer := s.timer.map (· + 1) }

/-- One millisecond passes with no command waiting. The arbiters of R165 and R166 choose once, after all that comes about on
it: DESIGN CHOICE, unsafe (notes/assumptions/30.md). -/
def tick (s : State) : Host.Outcome State Fault Refusal :=
  finish (inFreeOrder expire s.expiries.length s.expiries s.older)

end Sys2Proof.Machine
end

