-- ==== Sys2Proof/Safety.lean ====
section
/-! DEFINITION. The terms in which statements about the NB4 are made: when a request is taken, what a state is apart from its
four spouts, what a spout is apart from its marks with the transmitters, and the invariants of a safe run: grants and
demands follow the spout states, curve banks stand in one of their arrangements, metering quantities and parameters stay
in their ranges, and the order store and the link ports stay within their bounds. -/

namespace Sys2Proof.Machine

/-! ### Terms -/

/-- R167, R174, R184: a request of this code and address byte is addressed to this NB4, no restart is pending and the response
FIFO has a place. -/
def State.takes (s : State) (h : ReqHeader) (code : Byte) : Prop :=
  s.isAddressed h.address code = true ∧ s.restartPending = false ∧ s.respFifo.length < 4

/-- The response that a taken request places (R167), built with the address that stands then. -/
def reply (s : State) (h : ReqHeader) (code : Byte) (status : Status) (data : List Byte) : Outgoing where
  frame := responseFrame s.address h.number code status data
  isRestart := false

/-- The state with that response placed at the newest end of the response FIFO. -/
def State.replied (s : State) (h : ReqHeader) (code : Byte) (status : Status) (data : List Byte) : State :=
  { s with respFifo := s.respFifo ++ [reply s h code status data] }

/-- The command `c` answers a next state in which the request has left the state `u`, the silence timer and flag have been dealt
with (R170), the response has been built from what stands then and placed (R167), and both arbiters have chosen where
their lines stand free (R165, R166). -/
def State.answers (s : State) (c : Instr) (h : ReqHeader) (k : RequestKind) (u : State) (status : Status)
    (data : State → List Byte) : Prop :=
  exec c s = .next (serveLines ((noteAccepted u).replied h k.code status (data (noteAccepted u))))

/-- R185: the data of a spout request: the spout and its state's code. -/
def spoutReply (i : SpoutId) (t : State) : List Byte := [byte i.val, byte (t.spout i).ctl.state.code]

/-- R122, R185: the data of ENQUEUE and CANCEL: the tag, the spout's state, its queue depth and the free count of the pool. -/
def orderReply (tag : Nat) (i : SpoutId) (t : State) : List Byte :=
  be16 tag ++ [byte (t.spout i).ctl.state.code, byte (t.spout i).queue.length, byte t.poolFree]

/-- R142, R138: spout `i` has given up its grant or waiter place and stands with the record `q`; a grant it held is decided
afresh. -/
def State.released (s : State) (i : SpoutId) (q : Spout) : State :=
  if (s.spout i).place = .holder then grantDecision (s.upd i fun _ => q) else s.upd i fun _ => q

/-- R105: the control record of a spout that leaves its state for a state with the gate shut: out of COARSE and FINE the demands,
the flood run and the air-lost run become 0. -/
def Control.shut (c : Control) : Control :=
  if c.state.gateOpen then { c with gateDemand := 0, sentDemand := 0, floodRun := 0, airLostRun := 0 } else c

/-- R105, R142: the spout's gate order is pending after a move that shuts the gate or gives up a grant. -/
def Spout.orderOnRelease (p : Spout) : Bool := p.gatePending || p.ctl.state.gateOpen || p.place == .holder

/-- R142: the pressure wait after the release of a grant or a waiter place. -/
def Spout.waitOnRelease (p : Spout) : Option Nat := if p.place = .holder then none else p.ctl.pressureWait

/-- Everything but the four spouts' records and the count of free values read. -/
def State.device (s : State) : State := { s with spouts := PerSpout.all Spout.reset, freeCount := 0 }

/-- A spout's record without what the transmitters hold for it: alert marks, the report-due flag, the gate-order-pending flag
and the order sequence. -/
def Spout.unmarked (p : Spout) : Spout :=
  { p with
    alerts := Vector.replicate 9 AlertMark.clear
    reportDue := false
    gatePending := false
    orderSeq := 0 }

/-- R138 to R140: what a grant decision does to a spout: nothing, or, for a waiter, a grant, with which a spout in AWAIT_AIR
may enter its resume phase at once. -/
def Spout.regranted (p q : Spout) : Prop :=
  q = p ∨ (p.place = .waiter ∧ (q = p.takeGrant ∨ (p.ctl.state = .awaitAir ∧ q = p.takeGrant.openGate)))

/-- What a command for spout `i` that may free a grant leaves of everything else: the device as it stood, and every other
spout as it stood but for a grant (R142). -/
def State.spares (s t : State) (i : SpoutId) : Prop :=
  t.device = s.device ∧ t.freeCount = s.freeCount ∧ ∀ j, j ≠ i → (s.spout j).regranted (t.spout j)

/-! ### Invariants of one spout -/

/-- R36, R40: a zero step is in progress in ZEROING and in no other state. -/
def Spout.stepSound (p : Spout) : Prop := p.zero.step.isSome = true ↔ p.ctl.state = .zeroing

/-- R54 to R56: the parts of the spout record stand exactly in the states that have them, and in COARSE and FINE the resume
phase names the state. -/
def Spout.recordSound (p : Spout) : Prop :=
  p.stepSound ∧
    (p.ctl.heldReason.isSome = true ↔ p.ctl.state = .held) ∧
    (p.ctl.faultKind.isSome = true ↔ p.ctl.state = .faulted) ∧
    (p.ctl.endReason.isSome = true ↔ p.ctl.state = .tailing) ∧
    p.ctl.openComp.isSome = p.ctl.state.compartmentOpen ∧
    p.ctl.resumePhase.isSome = p.ctl.state.compartmentOpen ∧
    (p.ctl.state = .coarse → p.ctl.resumePhase = some .coarse) ∧
    (p.ctl.state = .fine → p.ctl.resumePhase = some .fine)

/-- R137 to R142: a spout in COARSE or FINE holds a grant, a spout in AWAIT_AIR holds one or waits for one, no other spout does
either, and the pressure wait runs exactly for a holder in AWAIT_AIR. -/
def Spout.airSound (p : Spout) : Prop :=
  p.stepSound ∧ (p.ctl.state.gateOpen = true → p.place = .holder) ∧
    (p.place ≠ .neither ↔ p.ctl.state = .awaitAir ∨ p.ctl.state.gateOpen = true) ∧
    (p.ctl.pressureWait.isSome = true ↔ p.ctl.state = .awaitAir ∧ p.place = .holder)

/-- R180: every parameter of the spout lies in its range. -/
def Spout.paramsSound (p : Spout) : Prop := ∀ q : SpoutParam, q.limit (q.value p) = q.value p

/-- R98, R100, R105: the demands are 0 outside COARSE and FINE, and in them the sent demand lies between the minimum opening
and 1000‰. The parameters, the ratio and the caps of the orders queued that it is made from lie in their ranges. -/
def Spout.demandSound (p : Spout) : Prop :=
  p.stepSound ∧ p.paramsSound ∧ p.ctl.ratio ≤ 1000 ∧ (∀ o ∈ p.queue, o.cap ≤ 1000) ∧
    (p.ctl.state.gateOpen = false → p.ctl.gateDemand = 0 ∧ p.ctl.sentDemand = 0) ∧
    (p.ctl.state.gateOpen = true →
      p.ctl.gateDemand ≤ 1000 ∧ p.par.minOpening ≤ p.ctl.sentDemand ∧ p.ctl.sentDemand ≤ 1000)

/-- R22, R24, R58: the banks stand in one of the two arrangements of R22, every bank that is ACTIVE, STANDBY_VALID or PENDING
passes the test of R24, no point lies above 20,000 fu, and the curve is valid outside PARKED. -/
def Spout.curveSound (p : Spout) : Prop :=
  p.stepSound ∧
  (p.ctl.state ≠ .parked → p.curve.valid = true) ∧
  (p.curve.valid = false →
    p.curve.statusA = .standbyUnchecked ∧ p.curve.statusB = .standbyUnchecked ∧ p.curve.selected = .a) ∧
  (p.curve.valid = true → p.curve.status p.curve.selected = .active ∧ p.curve.status p.curve.standby ≠ .active) ∧
  (∀ b : Bank, p.curve.status b ≠ .standbyUnchecked → failingPoint (p.curve.points b) = none) ∧
  (∀ (b : Bank) (k : Nat), (p.curve.points b).getD k 0 ≤ 20000)

/-- R1, R16, R18, R19: the window holds eight flows of at most 20,000 fu, F is the floor of their mean, the accumulator stays
in its range, the compartment mass is a fortieth of it, and the missing run stays within 255. -/
def Spout.meterSound (p : Spout) : Prop :=
  p.chan.window.length = 8 ∧ (∀ u ∈ p.chan.window, u ≤ 20000) ∧ p.chan.lastGood ≤ 20000 ∧
    p.chan.filtered = p.chan.window.sum / 8 ∧ p.chan.acc ≤ 4294967295 ∧ p.chan.massG = p.chan.acc / 40 ∧
    p.chan.missingRun ≤ 255

/-- R36: the zero, the owed count, the set in progress, the step in progress and the two waits stay in their ranges. -/
def Spout.zeroSound (p : Spout) : Prop :=
  p.stepSound ∧ p.paramsSound ∧ p.zero.zero ≤ 1048575 ∧ p.zero.owed ≤ 8 ∧ p.zero.dueCount < p.duePeriod ∧
    p.zero.stepsDone < p.zero.cadence.stepsPerSet ∧
    p.zero.partialSum ≤ p.zero.stepsDone * (stepLength p.zero.cadence .normal * 1048575) ∧
    (∀ n, p.zero.retryWait = some n → 1 ≤ n ∧ n ≤ 400) ∧
    (∀ st, p.zero.step = some st → st.length = stepLength p.zero.cadence st.kind ∧ st.taken < st.length ∧
      st.sum ≤ st.taken * 1048575 ∧ st.band ≤ 65535)

/-- R80, R99, R108, R112, R134, R154, R169: each count of samples stands below the value that acts, and at 0 in the states that
do not count. -/
def Spout.runsSound (p : Spout) : Prop :=
  p.stepSound ∧ p.paramsSound ∧ p.ctl.pacing < 8 ∧ p.reportCount < p.par.reportInterval ∧
    (p.ctl.state = .coarse → p.ctl.floodRun < 8) ∧ (p.ctl.state = .fine → p.ctl.floodRun < 400) ∧
    (p.ctl.state.gateOpen = true → p.ctl.airLostRun < 200) ∧
    (p.ctl.state.gateOpen = false → p.ctl.floodRun = 0 ∧ p.ctl.airLostRun = 0) ∧
    p.ctl.stuckRun < 1200 ∧ (p.ctl.state.stuckExempt = true → p.ctl.stuckRun = 0) ∧
    (∀ n, p.ctl.pressureWait = some n → n < 800) ∧
    p.ctl.tailAge < 4000 ∧ p.ctl.settleRun < 400 ∧ p.ctl.duration ≤ 4294967295

/-- R116, R119: an order as it is stored. -/
def Order.sound (o : Order) : Prop :=
  1 ≤ o.tag ∧ o.tag ≤ 65535 ∧ 1 ≤ o.targets.length ∧ o.targets.length ≤ 6 ∧
    (∀ t ∈ o.targets, 100 ≤ t ∧ t ≤ 60000) ∧ 100 ≤ o.cap ∧ o.cap ≤ 1000 ∧
    (∀ f, o.flowLimit = some f → 500 ≤ f ∧ f ≤ 20000) ∧ 1 ≤ o.nextIndex ∧ o.nextIndex ≤ o.targets.length + 1

/-- R117, R123, R126: an order that a PROCEED may open a compartment of. -/
def Order.ready (o : Order) : Prop := o.hasLeft = true ∧ o.aborted = false

/-- R115, R116, R123, R126, R127: the queue holds at most eight orders of different tags, of which only the head has been
begun; a parked or idle spout holds none, a READY spout's head order has compartments left, and an open compartment is
the head order's newest. -/
def Spout.queueSound (p : Spout) : Prop :=
  p.recordSound ∧ p.queue.length ≤ 8 ∧ (p.queue.map Order.tag).Nodup ∧ (∀ o ∈ p.queue, o.sound) ∧
    (∀ o ∈ p.queue.tail, o.nextIndex = 1 ∧ o.aborted = false) ∧
    (p.ctl.state = .parked ∨ p.ctl.state = .idle → p.queue = []) ∧
    (p.ctl.state = .ready → ∃ o rest, p.queue = o :: rest ∧ o.ready) ∧
    (∀ st, p.zero.step = some st → st.origin = .idle → p.queue = []) ∧
    (∀ st, p.zero.step = some st → st.origin = .ready → ∃ o rest, p.queue = o :: rest ∧ o.ready) ∧
    (∀ c, p.ctl.openComp = some c → ∃ o rest, p.queue = o :: rest ∧ c.tag = o.tag ∧ o.nextIndex = c.index + 1 ∧
      1 ≤ c.index ∧ c.targetKg = o.targets.getD (c.index - 1) 0)

/-- R91, R130: the ring holds at most eight results, and their numbers run up to the last one given. -/
def Spout.ringSound (p : Spout) : Prop :=
  p.ring.length ≤ 8 ∧
    ∀ (k : Nat) (r : Result), p.ring.reverse[k]? = some r → r.number = p.resultNumber - 1 - BitVec.ofNat 8 k

/-! ### Invariants of the device -/

/-- R156, R163: a counter lies in 0 to 127, and its overflow flag is set only while it stands at 127. -/
def Counter.sound (c : Counter) : Prop := c.count ≤ 127 ∧ (c.overflow = true → c.count = 127)

/-- R115, R130: the pool holds at most 16 orders and every results ring is sound. -/
def State.storeSound (s : State) : Prop := s.heldOrders ≤ 16 ∧ ∀ i, (s.spout i).ringSound

/-- How many responses to a RESTART are waiting or in transmission. -/
def State.restartMarkers (s : State) : Nat :=
  (s.respFifo.filter fun o => o.isRestart).length + if s.plantLine.any fun o => o.isRestart then 1 else 0

/-- R159, R163, R173, R184: the FIFOs, the port counters and the address stay in their ranges, and the response to a RESTART is
waiting or in transmission exactly while restart is pending. -/
def State.linkSound (s : State) : Prop :=
  s.plantFifo.length ≤ 24 ∧ s.fieldFifo.length ≤ 16 ∧ s.respFifo.length ≤ 4 ∧
    s.crcCount.sound ∧ s.framingCount.sound ∧ s.overrunCount.sound ∧ s.requestOverrunCount.sound ∧
    s.address ≤ 15 ∧ s.restartMarkers = if s.restartPending then 1 else 0

/-- R159, R170, R171: the silence setting lies in 0 to 7; a running timer has a setting of 6 or less and stands below its timeout;
the timer is stopped while the silent flag is set. -/
def State.timerSound (s : State) : Prop :=
  s.silenceK ≤ 7 ∧ (∀ n, s.timer = some n → s.silenceK ≤ 6 ∧ n < 125 * 2 ^ s.silenceK) ∧
    (s.silent = true → s.timer = none)

/-- R22, R27, R29: the curve window's range lies within the seventeen points, and its cursor lies in the range or stands just past it. -/
def State.windowSound (s : State) : Prop :=
  s.window.first ≤ s.window.last ∧ s.window.last ≤ 16 ∧ s.window.first ≤ s.window.cursor ∧
    s.window.cursor ≤ s.window.last + 1

/-- R134 to R138: the chain order is a permutation of the four spouts, the grant count lies in 1 to 4, and while a spout waits
every place is taken. -/
def State.grantsSound (s : State) : Prop :=
  isChain s.chain = true ∧ 1 ≤ s.grantCount ∧ s.grantCount ≤ 4 ∧
    ((∃ i, (s.spout i).place = .waiter) → s.grantCount ≤ s.holders)

/-- R145, R147, R148: a mapped lane's counters are sound, it is stale exactly when its freshness age stands at its role's limit, and
its latest value lies in its role's range; a FORCE lane keeps no sequence and no value. -/
def Lane.sound (e : Lane) : Prop :=
  e.crc.sound ∧ e.gap.sound ∧ e.dup.sound ∧ e.age ≤ e.role.limit ∧ (e.stale = true ↔ e.age = e.role.limit) ∧
    (e.role = .force → e.lastSeq = none ∧ e.latest = 0) ∧ (e.role = .gate → e.latest ≤ 1000) ∧
    (e.role = .air → e.latest ≤ 65535) ∧ (e.role = .probe ∨ e.role = .bay → e.latest ≤ 1)

/-- R58, R149: every mapped lane is sound, no role of a spout is held by two lanes, and every spout outside PARKED has FORCE, GATE
and AIR lanes. -/
def State.lanesSound (s : State) : Prop :=
  (∀ i, (s.spout i).stepSound) ∧ (∀ l e, s.lane l = some e → e.sound) ∧
    (∀ l m e f, s.lane l = some e → s.lane m = some f → e.spout = f.spout → e.role = f.role → l = m) ∧
    (∀ i, (s.spout i).ctl.state ≠ .parked →
      (s.laneOf i .force).isSome = true ∧ (s.laneOf i .gate).isSome = true ∧ (s.laneOf i .air).isSome = true)

end Sys2Proof.Machine
end

