-- ==== Sys2Proof/WellFormed.lean ====
section
/-! DEFINITION. Which commands are well formed. The spout and lane numbers are well formed by their types; what is left is
that a run of bytes is not empty, that a request fits a frame (R172: a parameter length of 0 to 32) and that the code of an
UNKNOWN_REQUEST is unknown (R175). The meanings are total: a command that is not well formed still has the meaning that
the run of bytes it spells has. -/

namespace Sys2Proof

/-- R172: a REQUEST carries 0 to 32 parameter bytes. -/
def paramsFit (ps : List Byte) : Bool := ps.length ≤ 32

/-- The request, with its header and parameters, that a request command carries. -/
def Instr.request? : Instr → Option (RequestKind × ReqHeader × List Byte)
  | .ident h ps => some (.ident, h, ps)
  | .assign h ps => some (.assign, h, ps)
  | .keepalive h ps => some (.keepalive, h, ps)
  | .setParam h ps => some (.setParam, h, ps)
  | .getParam h ps => some (.getParam, h, ps)
  | .status h ps => some (.status, h, ps)
  | .counters h ps => some (.counters, h, ps)
  | .restart h ps => some (.restart, h, ps)
  | .openWindow h ps => some (.openWindow, h, ps)
  | .writePoints h ps => some (.writePoints, h, ps)
  | .writeMore h ps => some (.writeMore, h, ps)
  | .readPoints h ps => some (.readPoints, h, ps)
  | .readMore h ps => some (.readMore, h, ps)
  | .activate h ps => some (.activate, h, ps)
  | .mapLane h ps => some (.mapLane, h, ps)
  | .unmapLane h ps => some (.unmapLane, h, ps)
  | .setChain h ps => some (.setChain, h, ps)
  | .enqueue h ps => some (.enqueue, h, ps)
  | .cancel h ps => some (.cancel, h, ps)
  | .results h ps => some (.results, h, ps)
  | .proceed h ps => some (.proceed, h, ps)
  | .abort h ps => some (.abort, h, ps)
  | .hold h ps => some (.hold, h, ps)
  | .resume h ps => some (.resume, h, ps)
  | .park h ps => some (.park, h, ps)
  | .unpark h ps => some (.unpark, h, ps)
  | .clear h ps => some (.clear, h, ps)
  | .zeroNow h ps => some (.zeroNow, h, ps)
  | .powerOnReset | .fPortFrame _ | .sampleLoss _ | .starvation _ | .laneStale _ | .duePoint _
  | .stepComplete _ _ | .retryWaitEnd _ | .pacingPoint _ | .reportIntervalExpiry _ | .floodDrop _
  | .floodClosure _ | .gateStuck _ | .airFail _ | .airLost _ | .tailSettled _ | .tailTimeout _
  | .silenceExpiry | .pPortFrame _ | .unknownRequest _ _ _ | .pPortLineFree | .fPortLineFree => none

/-- Whether a command is well formed. -/
def Instr.wellFormed (c : Instr) : Bool :=
  match c with
  | .fPortFrame run => !run.isEmpty
  | .pPortFrame run => !run.isEmpty
  | .unknownRequest _ code ps => (requestKind code).isNone && paramsFit ps
  | c =>
    match c.request? with
    | some (_, _, ps) => paramsFit ps
    | none => true

end Sys2Proof
end

