-- ==== Sys2Proof/Certificates/Slice0/Obligations.lean ====
section
/-! DEFINITION. The statements for the provers. A statement about a command says what `exec` answers, as an explicit record
or by the shared operations whose own statements stand here. Commands that free a grant leave the state that
`State.released` names (R142). Each docstring names the rules that a statement formalises; where a choice of the model's
enters, it names the log entry. -/

open Sys2Proof Sys2Proof.Machine

/-! ### The machine -/

/-- Asked of a block: with a command at the front of the queue of waiting commands, a step is exec of that command on
the state with the queue's rest. The queue is the model's own (notes/assumptions/4.md). -/
def Obligations.StepRunsFrontCommand : Prop :=
  ∀ (s : State) (c : Instr) (rest : List Instr), s.pending = c :: rest → step s = exec c { s with pending := rest }

/-- Every command answers a next state from every state, and none reaches the queue of waiting commands (R77, R175,
R176; that no command stops is notes/assumptions/1.md). -/
def Obligations.EveryCommandAnswers : Prop :=
  ∀ (c : Instr) (s : State), ∃ t, exec c s = .next t ∧ t.pending = s.pending

/-- The model's choice (notes/assumptions/4.md) for the real time of R9, R145, R148, R170 and R171: with no command
waiting, one millisecond passes. Every mapped lane grows older, up to its role's limit, and so does the running timer.
Nothing else changes as it passes. When nothing expires, that is all; the one lane that reaches its limit is starved
or stale as its own command makes it, and the timer that alone reaches its timeout expires. -/
def Obligations.IdleMillisecond : Prop :=
  ∀ s : State, s.pending = [] →
    (∀ l e, s.lane l = some e → s.older.lane l = some { e with age := min e.role.limit (e.age + 1) }) ∧
    (∀ l, s.lane l = none → s.older.lane l = none) ∧
    (∀ n, s.timer = some n → s.older.timer = some (n + 1)) ∧
    (s.timer = none → s.older.timer = none) ∧
    s.older = { s with lanes := s.older.lanes, timer := s.older.timer } ∧
    ((∀ l e, s.lane l = some e → e.age + 1 ≠ e.role.limit) →
      ((∀ n, s.timer = some n → n + 1 < 125 * 2 ^ s.silenceK) → step s = .next (serveLines s.older)) ∧
      (∀ n, s.timer = some n → 125 * 2 ^ s.silenceK ≤ n + 1 → step s = exec .silenceExpiry s.older)) ∧
    (∀ l e, s.lane l = some e → e.age + 1 = e.role.limit →
      (∀ m f, s.lane m = some f → f.age + 1 = f.role.limit → m = l) →
      (∀ n, s.timer = some n → n + 1 < 125 * 2 ^ s.silenceK) →
      (e.role = .force → step s = exec (.starvation e.spout) s.older) ∧
      (e.role ≠ .force → step s = exec (.laneStale l) s.older))

/-- Each request row, with any address byte, request number and parameters, is the arrival at the P-port of the
REQUEST frame that carries its code, that address byte, that request number and those parameters with a good CRC; the
same holds of UNKNOWN_REQUEST with the code it gives (R160, R162, R172, R174, R175, R185). For parameters that do not
fit a frame this is notes/assumptions/9.md, and for UNKNOWN_REQUEST with a known code it is the model's choice,
notes/assumptions/10.md. -/
def Obligations.RequestIsItsFrame : Prop :=
  (∀ (c : Instr) (k : RequestKind) (h : ReqHeader) (ps : List Byte) (s : State), c.request? = some (k, h, ps) →
    exec c s = exec (.pPortFrame (requestFrame h k.code ps)) s) ∧
  ∀ (h : ReqHeader) (code : Byte) (ps : List Byte) (s : State),
    exec (.unknownRequest h code ps) s = exec (.pPortFrame (requestFrame h code ps)) s

/-- The state after a power-on reset meets every invariant that the statements below keep, and holds the reset values
of R54, R115, R134, R145, R159, R173 and the defaults of R180 and R181. That both lines are free and nothing is
waiting is the model's choice (notes/assumptions/20.md). -/
def Obligations.ResetState : Prop :=
  ((∀ i, (State.reset.spout i).recordSound ∧ (State.reset.spout i).airSound ∧ (State.reset.spout i).demandSound ∧
     (State.reset.spout i).curveSound ∧ (State.reset.spout i).meterSound ∧ (State.reset.spout i).zeroSound ∧
     (State.reset.spout i).runsSound ∧ (State.reset.spout i).queueSound) ∧
   State.reset.storeSound ∧ State.reset.linkSound ∧ State.reset.timerSound ∧ State.reset.grantsSound ∧
   State.reset.lanesSound ∧ State.reset.windowSound) ∧
  (let s := State.reset
   (∀ i, (s.spout i).ctl.state = .parked ∧ (s.spout i).curve.valid = false ∧ (s.spout i).place = .neither ∧
     (s.spout i).queue = [] ∧ (s.spout i).ring = [] ∧ (s.spout i).resultNumber = 0 ∧ (s.spout i).orderSeq = 0 ∧
     (s.spout i).ctl.ratio = 1000 ∧
     [SpoutParam.span, .lowCut, .fineOpening, .minOpening, .fineBand, .rampStep, .regStep, .deadband, .tau, .gain,
       .floodLimit, .zeroMode, .zeroInterval, .zeroBand, .driftLimit, .airThreshold, .reportInterval,
       .settleCount].map (fun q => q.value (s.spout i)) =
       [4096, 50, 250, 80, 800, 40, 10, 100, 400, 4, 0, 1, 120, 4000, 20000, 6000, 200, 80]) ∧
   (∀ l, s.lane l = none) ∧ s.address = 15 ∧ s.resetCause = .powerOn ∧ s.restartPending = false ∧ s.silenceK = 3 ∧
   s.timer = none ∧ s.silent = false ∧ s.grantCount = 2 ∧ s.chain = [0, 1, 2, 3] ∧ s.lastReported = 3 ∧
   s.plantFifo = [] ∧ s.fieldFifo = [] ∧ s.respFifo = [] ∧ s.window.isOpen = false)

/-! ### What every step keeps -/

/-- If in every spout the zero step, held reason, fault kind, end reason, open compartment and resume phase stand
exactly in the states that have them, they do so after any step (R54, R55, R56, R62). -/
def Obligations.RecordKept : Prop :=
  ∀ s t : State, (∀ i, (s.spout i).recordSound) → step s = .next t → ∀ i, (t.spout i).recordSound

/-- Every step keeps this: grants, waiter places and pressure waits follow the spout states (R134, R137, R139, R142).
Every step keeps this too: the chain order is a permutation, the grant count lies in 1 to 4, and while a spout waits
every place is taken (R134, R135, R136, R138). -/
def Obligations.AirKept : Prop :=
  (∀ s t : State, (∀ i, (s.spout i).airSound) → step s = .next t → ∀ i, (t.spout i).airSound) ∧
  (∀ s t : State, s.grantsSound → step s = .next t → t.grantsSound)

/-- Every step keeps this: the demands are 0 outside COARSE and FINE, in them the sent demand lies between the minimum
opening and 1000, and every parameter lies in its range (R98, R100, R101, R102, R105, R180). -/
def Obligations.DemandKept : Prop :=
  ∀ s t : State, (∀ i, (s.spout i).demandSound) → step s = .next t → ∀ i, (t.spout i).demandSound

/-- Every step keeps this: the banks of each spout stand in one of their two arrangements, a bank that is in use has
passed the validity test, no point lies above 20,000, and a spout outside PARKED has a valid curve (R22, R23, R24,
R58). Every step keeps this too: the curve window's range lies within the points, and its cursor in the range or just
past it (R22, R27, R29). -/
def Obligations.CurveKept : Prop :=
  (∀ s t : State, (∀ i, (s.spout i).curveSound) → step s = .next t → ∀ i, (t.spout i).curveSound) ∧
  (∀ s t : State, s.windowSound → step s = .next t → t.windowSound)

/-- Every step keeps this: flows, F, the accumulator and the missing run stay in their ranges, F is the floor of the
mean of the window and the compartment mass is a fortieth of the accumulator (R1, R16, R18, R19). -/
def Obligations.MeterKept : Prop :=
  ∀ s t : State, (∀ i, (s.spout i).meterSound) → step s = .next t → ∀ i, (t.spout i).meterSound

/-- Every step keeps this: the zero, owed count, due counter, set, step and retry wait of each spout stay in their
ranges (R36 to R39), and every count of samples stays below the value at which it acts, at 0 in the states that do not
count (R61, R80, R99, R108, R112, R141, R154, R169). -/
def Obligations.CountsKept : Prop :=
  (∀ s t : State, (∀ i, (s.spout i).zeroSound) → step s = .next t → ∀ i, (t.spout i).zeroSound) ∧
  (∀ s t : State, (∀ i, (s.spout i).runsSound) → step s = .next t → ∀ i, (t.spout i).runsSound)

/-- Every step keeps this: each queue holds at most eight orders of different tags, only the head begun, each in the
ranges of R119, and the spout states agree with the queues (R115, R116, R117, R123, R126); the pool stays within 16
orders, and each results ring holds at most eight records with consecutive numbers (R115, R130). -/
def Obligations.OrdersKept : Prop :=
  (∀ s t : State, (∀ i, (s.spout i).queueSound) → step s = .next t → ∀ i, (t.spout i).queueSound) ∧
  (∀ s t : State, s.storeSound → step s = .next t → t.storeSound)

/-- Every step keeps this: the FIFOs, port counters and address stay in their ranges, and restart is pending exactly
while its response is waiting or in transmission (R159, R163, R164, R167, R173, R184); a running timer stands below
its timeout and the silent flag is set only with the timer stopped (R159, R170, R171). After every step a line stands
free only when it has nothing to send (R165, R166). -/
def Obligations.LinksKept : Prop :=
  (∀ s t : State, s.linkSound → step s = .next t → t.linkSound) ∧
  (∀ s t : State, s.timerSound → step s = .next t → t.timerSound) ∧
  (∀ s t : State, step s = .next t →
     (t.plantLine = none → t.plantFifo = [] ∧ t.respFifo = [] ∧ t.silenceMark.pending = false ∧
       t.overrunMark.pending = false ∧
       ∀ i, (t.spout i).reportDue = false ∧ ∀ k : AlertKind, (t.spout i).alerts[k.index].pending = false) ∧
     (t.fieldLine = none → t.fieldFifo = [] ∧ ∀ i, (t.spout i).gatePending = false))

/-- Every step keeps this: lanes stay sound, no role of a spout is held by two lanes, and a spout outside PARKED keeps
its FORCE, GATE and AIR lanes (R58, R145, R147, R148, R149, R150, R156). -/
def Obligations.LanesKept : Prop :=
  ∀ s t : State, s.lanesSound → step s = .next t → t.lanesSound

/-! ### Operations that many commands share -/

/-- One after another, the occurrences of an alert leave its mark pending with their number, stopping at 15, and the
detail of the last; they leave everything else of the spout as it stood (R168). -/
def Obligations.AlertsCoalesce : Prop :=
  ∀ (p : Spout) (k : AlertKind) (ds : List Nat) (d : Nat), p.alerts[k.index].pending = false →
    (ds ++ [d]).foldl (fun q x => q.raise k x) p =
      { p with alerts := p.alerts.set k.index ⟨true, min 15 (ds.length + 1), d⟩ }

/-- A spout in IDLE or READY with no retry wait running goes to ZEROING when make-up or steps are owed, and otherwise
nothing happens (R37, R40). A step abandoned by a sample or by starvation returns the spout to its origin with a retry
wait of 400 samples; without a step nothing happens (R43, R46). Nothing else changes. -/
def Obligations.ZeroStepEntryAndAbandonment : Prop :=
  (∀ p : Spout,
     let due := (p.ctl.state = .idle ∨ p.ctl.state = .ready) ∧ p.zero.retryWait = none ∧
       (p.zero.makeupOwed = true ∨ 1 ≤ p.zero.owed)
     (¬ due → p.examineZeroing = p) ∧
     (due → p.examineZeroing =
       { p with
         reportDue := true
         ctl := { p.ctl with state := .zeroing }
         zero := { p.zero with
           step := some
             { kind := if p.zero.makeupOwed then .makeup else .normal
               origin := if p.ctl.state = .ready then .ready else .idle
               taken := 0
               sum := 0
               length :=
                 if p.zero.makeupOwed then 256
                 else match p.zero.cadence with
                   | .z1 => 256
                   | .z2 => 128
                   | .z4 => 64
               band := p.par.zeroBand } } })) ∧
  (∀ (s : State) (i : SpoutId),
     ((s.spout i).zero.step = none → abandonStep i s = s) ∧
     ∀ st, (s.spout i).zero.step = some st →
       abandonStep i s = s.upd i fun p =>
         { p with
           reportDue := true
           ctl := { p.ctl with state := match st.origin with | .idle => .idle | .ready => .ready }
           zero := { p.zero with step := none, retryWait := some 400 } })

/-- A grant decision gives grants one at a time, each whole, to the waiter that stands earliest in the chain order,
and ends when every place is taken or no spout waits (R138, R139). A holder in AWAIT_AIR whose pressure stands at the
threshold enters its resume phase, at the grant or at an AIR value, with its demand updated once and its gate order
pending (R101, R102, R103, R140). -/
def Obligations.GrantDecision : Prop :=
  ((∀ s : State, s.grantCount ≤ s.holders → grantDecision s = s) ∧
   (∀ s : State, (∀ i, (s.spout i).place ≠ .waiter) → grantDecision s = s) ∧
   (∀ (s : State) (before after : List SpoutId) (i : SpoutId), isChain s.chain = true →
     s.holders < s.grantCount → s.chain = before ++ i :: after →
     (∀ j ∈ before, (s.spout j).place ≠ .waiter) → (s.spout i).place = .waiter →
     let p := s.spout i
     ((p.ctl.state ≠ .awaitAir ∨ s.airReached i = false) →
       grantDecision s = grantDecision (s.upd i fun p =>
         { p with place := .holder, gatePending := true, ctl := { p.ctl with pressureWait := some 0 } })) ∧
     (p.ctl.state = .awaitAir → s.airReached i = true → p.ctl.resumePhase = some .coarse → ∀ o rest, p.queue = o :: rest →
       let aim := o.cap * p.ctl.ratio / 1000
       let sent :=
         if p.ctl.sentDemand < aim then min (p.ctl.sentDemand + p.par.rampStep) aim
         else max (p.ctl.sentDemand - p.par.rampStep) aim
       grantDecision s = grantDecision (s.upd i fun p =>
         { p with
           place := .holder
           gatePending := true
           reportDue := true
           ctl := { p.ctl with
             state := .coarse, stuckRun := 0, floodRun := 0, airLostRun := 0, pressureWait := none
             gateDemand := aim, sentDemand := max sent p.par.minOpening } })) ∧
     (p.ctl.state = .awaitAir → s.airReached i = true → p.ctl.resumePhase = some .fine →
       let sent :=
         if p.ctl.sentDemand < p.par.fineOpening then min (p.ctl.sentDemand + p.par.rampStep) p.par.fineOpening
         else max (p.ctl.sentDemand - p.par.rampStep) p.par.fineOpening
       grantDecision s = grantDecision (s.upd i fun p =>
         { p with
           place := .holder
           gatePending := true
           reportDue := true
           ctl := { p.ctl with
             state := .fine, stuckRun := 0, floodRun := 0, airLostRun := 0, pressureWait := none
             gateDemand := p.par.fineOpening, sentDemand := max sent p.par.minOpening } }))) ∧
   ∀ s : State, isChain s.chain = true → ∀ i, ((grantDecision s).spout i).place = .waiter →
     s.grantCount ≤ (grantDecision s).holders) ∧
  (∀ (s : State) (i : SpoutId) (e : Lane), s.roleLane i .air = some e →
     let p := s.spout i
     let waits := p.ctl.state = .awaitAir ∧ p.place = .holder
     let reached := p.par.airThreshold ≤ e.latest ∧ e.stale = false
     let opened := fun (st : SpoutState) (aim : Nat) =>
       let sent :=
         if p.ctl.sentDemand < aim then min (p.ctl.sentDemand + p.par.rampStep) aim
         else max (p.ctl.sentDemand - p.par.rampStep) aim
       { p with
         gatePending := true
         reportDue := true
         ctl := { p.ctl with
           state := st, stuckRun := 0, floodRun := 0, airLostRun := 0, pressureWait := none
           gateDemand := aim, sentDemand := max sent p.par.minOpening } }
     (¬ (waits ∧ reached) → examinePressure i s = s) ∧
     (∀ o rest, waits → reached → p.ctl.resumePhase = some .coarse → p.queue = o :: rest →
       examinePressure i s = s.upd i fun _ => opened .coarse (o.cap * p.ctl.ratio / 1000)) ∧
     (waits → reached → p.ctl.resumePhase = some .fine →
       examinePressure i s = s.upd i fun _ => opened .fine p.par.fineOpening))

/-- Opening a compartment takes the head order's next compartment, clears the channel's compartment state, records the
stale-zero mark and enters ARMED; with all permissives holding the spout goes on to AWAIT_AIR and asks for a grant
(R17, R46, R47, R51, R61, R123, R137, R151). -/
def Obligations.CompartmentOpens : Prop :=
  ∀ (s : State) (i : SpoutId) (o : Order) (rest : List Order), (s.spout i).queue = o :: rest →
    let p := s.spout i
    let q := { p with
      reportDue := true
      queue := { o with nextIndex := o.nextIndex + 1 } :: rest
      chan := { p.chan with acc := 0, massG := 0, overrange := false, fillMark := false, satMark := false }
      zero := { p.zero with staleZero := p.zero.owed == 8, pendingProceed := false, retryWait := none, step := none }
      ctl := { p.ctl with
        state := .armed
        heldReason := none
        endReason := none
        resumePhase := some .coarse
        openComp := some ⟨o.tag, o.nextIndex, o.targets.getD (o.nextIndex - 1) 0⟩
        duration := 0
        ratio := 1000 } }
    (s.permitted i = false → openCompartment i s = s.upd i fun _ => q) ∧
    (s.permitted i = true →
      openCompartment i s =
        grantDecision (s.upd i fun _ => { q with place := .waiter, ctl := { q.ctl with state := .awaitAir } }))

/-- Entry to HELD (R64), to TAILING with the tail data as they stand (R67, R86) and to FAULTED (R73, R74, R112), from
any state that takes them and whatever the cause: the gate shuts (R105), a grant or waiter place is given up (R142),
the alert is raised and everything else stays. With a compartment open a fault first records its result. -/
def Obligations.LoadingEnds : Prop :=
  (∀ (s : State) (i : SpoutId) (reason : HeldReason),
     let p := s.spout i
     enterHeld reason i s = s.released i
       { p with
         place := .neither
         reportDue := true
         gatePending := p.orderOnRelease
         alerts := p.alerts.set 5 (p.alerts[5].occur
           (match reason with | .command => 1 | .bay => 2 | .air => 3 | .silence => 4))
         ctl := { p.ctl.shut with state := .held, heldReason := some reason, pressureWait := p.waitOnRelease } }) ∧
  (∀ (s : State) (i : SpoutId) (reason : EndReason),
     let p := s.spout i
     enterTailing reason i s = s.released i
       { p with
         place := .neither
         reportDue := true
         gatePending := p.orderOnRelease
         ctl := { p.ctl.shut with
           state := .tailing, heldReason := none, endReason := some reason, pressureWait := p.waitOnRelease
           massAtClose := p.chan.massG, flowAtClose := p.chan.filtered, tailAge := 0, settleRun := 0 } }) ∧
  (∀ (s : State) (i : SpoutId) (kind : FaultKind),
     let p := s.spout i
     let q := { p with
       place := .neither
       gatePending := p.orderOnRelease
       zero := { p.zero with step := none, retryWait := none, pendingProceed := false }
       ctl := { p.ctl.shut with pressureWait := p.waitOnRelease } }
     let r := q.recordResult .faulted
     ((p.ctl.state = .parked ∨ p.ctl.state = .faulted) → enterFault kind i s = s) ∧
     (p.ctl.openComp = none → r = q) ∧
     (p.ctl.state ≠ .parked → p.ctl.state ≠ .faulted →
       enterFault kind i s = s.released i
         { r with
           reportDue := true
           alerts := r.alerts.set 6 (r.alerts[6].occur (match kind with | .sampleLoss => 1 | .gateStuck => 2 | .airFail => 3))
           ctl := { r.ctl with
             state := .faulted, stuckRun := 0, faultKind := some kind, heldReason := none, endReason := none } }))

/-- Recording a result: the record joins the ring of eight at its newest end, a pending exchange of banks completes
with CURVE_SWITCHED, a deferred make-up becomes owed, COMPARTMENT_DONE is raised with the end reason's code and the
open compartment's part of the spout returns to its reset values (R33, R35, R49, R90, R91, R130, R131). -/
def Obligations.ResultRecorded : Prop :=
  (∀ (p : Spout) (c : OpenCompartment) (path : RecordPath), p.ctl.openComp = some c →
     let switched := p.curve.exchangePending
     let reason := match path with
       | .tail _ => p.ctl.endReason.getD .normal
       | .aborted => .abort
       | .faulted => .fault
     let r : Result :=
       { number := p.resultNumber, tag := c.tag, index := c.index, targetKg := c.targetKg, finalG := p.chan.massG
         overshoot := (p.chan.massG : Int) - (c.targetKg : Int) * 1000, endReason := reason
         zeroStale := p.zero.staleZero, filled := p.chan.fillMark, tailTimeout := decide (path = .tail true)
         unsettled := decide (path = .faulted), saturated := p.chan.satMark, switchedAtEnd := switched
         tau := path.tau p, duration := p.ctl.duration }
     let alerts := if switched then p.alerts.set 4 (p.alerts[4].occur (p.curve.standby.code + 2)) else p.alerts
     p.recordResult path =
       { p with
         ring := if p.ring.length < 8 then p.ring ++ [r] else p.ring.drop (p.ring.length - 7) ++ [r]
         resultNumber := p.resultNumber + 1
         curve := if switched then p.curve.exchange else p.curve
         alerts := alerts.set 7 (alerts[7].occur
           (match reason with | .normal => 0 | .probe => 1 | .flood => 2 | .abort => 3 | .fault => 4))
         zero := { p.zero with
           makeupOwed := p.zero.makeupOwed || p.zero.makeupDeferred
           makeupDeferred := false }
         ctl := { p.ctl with
           tau := path.tau p, openComp := none, endReason := none, resumePhase := none
           massAtClose := 0, flowAtClose := 0, tailAge := 0, settleRun := 0 } }) ∧
  (∀ c : CurveStore, c.valid = true →
     (c.selected = .a → c.exchange = { c with statusA := .standbyValid, statusB := .active, selected := .b }) ∧
     (c.selected = .b → c.exchange = { c with statusA := .active, statusB := .standbyValid, selected := .a }))

/-- Tau is learned only from a settled NORMAL tail with F_close of 500 fu or more (R93). The new tau is the old tau
moved toward the measured in-flight time (R94) by gain sixteenths of the difference, rounded with halves away from
zero (R95); it lies between the two. -/
def Obligations.TauLearned : Prop :=
  ∀ (p : Spout) (path : RecordPath),
    let learned := path = .tail false ∧ p.ctl.endReason = some .normal ∧ 500 ≤ p.ctl.flowAtClose
    let tail := p.chan.massG - p.ctl.massAtClose
    let measured := min 4000 ((2 * tail * 40 + p.ctl.flowAtClose) / (2 * p.ctl.flowAtClose))
    ((path = .aborted ∨ path = .faulted ∨ p.ctl.endReason.isSome = true) → ¬ learned → path.tau p = p.ctl.tau) ∧
    (learned → p.ctl.tau ≤ 4000 → p.par.gain ≤ 16 →
      (min p.ctl.tau measured ≤ path.tau p ∧ path.tau p ≤ max p.ctl.tau measured) ∧
      (p.par.gain = 0 → path.tau p = p.ctl.tau) ∧ (p.par.gain = 16 → path.tau p = measured) ∧
      (p.ctl.tau ≤ measured →
        path.tau p = p.ctl.tau + ((measured - p.ctl.tau) * p.par.gain + 8) / 16) ∧
      (measured ≤ p.ctl.tau →
        path.tau p = p.ctl.tau - ((p.ctl.tau - measured) * p.par.gain + 8) / 16))

/-- Moving on by the head order: with compartments left and not aborted, the spout enters READY; otherwise the order
is retired with ORDER_RETIRED and the spout enters READY with the next order or IDLE with none; with an empty queue it
enters IDLE. The entry to ZEROING is then examined (R56, R72, R125, R126). -/
def Obligations.MovingOn : Prop :=
  ∀ p : Spout,
    (p.queue = [] →
      p.moveOn = { p with reportDue := true, ctl := { p.ctl with state := .idle } }.examineZeroing) ∧
    (∀ o rest, p.queue = o :: rest → o.nextIndex ≤ o.targets.length → o.aborted = false →
      p.moveOn = { p with reportDue := true, ctl := { p.ctl with state := .ready } }.examineZeroing) ∧
    (∀ o rest, p.queue = o :: rest → (o.targets.length < o.nextIndex ∨ o.aborted = true) →
      p.moveOn =
        { p with
          reportDue := true
          queue := rest
          alerts := p.alerts.set 8 (p.alerts[8].occur (if o.aborted then 2 else 1))
          ctl := { p.ctl with state := if rest = [] then .idle else .ready } }.examineZeroing)

/-! ### Conditions of the sample count

The rows of the sample count take place when the command's one count brings the count to the value that its rule names; where
it does not, the command has no effect (R77; the model's reading of these rows, notes/assumptions/3.md). -/

/-- A missing sample that takes the run above 4 is counted, abandons any zero step and, with a compartment open,
faults the spout with SAMPLE_LOSS (R5, R7). Starvation of a FORCE lane, once for each silence, faults a spout with a
compartment open and otherwise abandons any zero step; it counts no gap and feeds no sample count (R9). A lane already
stale stays as it is. That SAMPLE_LOSS is one count of its own, that both rows have no effect on a spout without a
FORCE lane, and that STARVATION acts whatever the lane's age are the model's choices (notes/assumptions/3.md,
notes/assumptions/4.md). -/
def Obligations.SampleLossAndStarvation : Prop :=
  ((∀ (s : State) (i : SpoutId), s.laneOf i .force = none →
     exec (.sampleLoss i) s = .next (serveLines s) ∧ exec (.starvation i) s = .next (serveLines s)) ∧
   ∀ (s : State) (i : SpoutId) (l : LaneId), s.laneOf i .force = some l → 4 ≤ (s.spout i).chan.missingRun →
     let counted := (s.updLane l fun e => { e with gap := e.gap.bump }).upd i fun p =>
       { p with chan := { p.chan with missingRun := min 255 (p.chan.missingRun + 1) } }
     ((s.spout i).ctl.state.compartmentOpen = true → (s.spout i).zero.step = none →
       exec (.sampleLoss i) s = .next (serveLines (enterFault .sampleLoss i counted))) ∧
     ((s.spout i).ctl.state.compartmentOpen = false →
       exec (.sampleLoss i) s = .next (serveLines (abandonStep i counted)))) ∧
  (∀ (s : State) (i : SpoutId) (l : LaneId) (e : Lane), s.laneOf i .force = some l → s.lane l = some e →
     let starved := (s.setLane l (some { e with age := 50, stale := true })).upd i fun p =>
       { p with chan := { p.chan with lastSeq := none, missingRun := 0 } }
     (e.stale = true → exec (.starvation i) s = .next (serveLines s)) ∧
     (e.stale = false → (s.spout i).ctl.state.compartmentOpen = true →
       exec (.starvation i) s = .next (serveLines (enterFault .sampleLoss i starved))) ∧
     (e.stale = false → (s.spout i).ctl.state.compartmentOpen = false →
       exec (.starvation i) s = .next (serveLines (abandonStep i starved))))

/-- A due point in any state but PARKED sets the due counter to 0 and owes one step more, up to 8; the rise from 7 to
8 raises ZERO_OVERDUE (R38, R39). The end of a retry wait, like the due point, examines the entry to ZEROING (R40,
R46). A report interval that expires starts again with report-due set (R169), on a spout with a FORCE lane, without
which it has no reports paced by samples (R150). -/
def Obligations.DuePointsAndWaits : Prop :=
  (∀ (s : State) (i : SpoutId),
     let p := s.spout i
     let steps := match p.zero.cadence with | .z1 => 1 | .z2 => 2 | .z4 => 4
     let owing := { p with zero := { p.zero with dueCount := 0, owed := min 8 (p.zero.owed + 1) } }
     p.ctl.state ≠ .parked → p.zero.dueCount + 1 = p.par.zeroInterval * 400 / steps →
       (p.zero.owed ≠ 7 →
         exec (.duePoint i) s = .next (serveLines (s.upd i fun _ => owing.examineZeroing))) ∧
       (p.zero.owed = 7 →
         let detail := if p.ctl.state.compartmentOpen then 1 else 0
         exec (.duePoint i) s = .next (serveLines (s.upd i fun _ =>
           { owing with alerts := owing.alerts.set 3 (owing.alerts[3].occur detail) }.examineZeroing)))) ∧
  (∀ (s : State) (i : SpoutId),
     let p := s.spout i
     (p.zero.retryWait = some 1 →
       exec (.retryWaitEnd i) s = .next (serveLines (s.upd i fun _ =>
         { p with zero := { p.zero with retryWait := none } }.examineZeroing))) ∧
     ((s.laneOf i .force).isSome = true → p.reportCount + 1 = p.par.reportInterval →
       exec (.reportIntervalExpiry i) s = .next (serveLines (s.upd i fun _ =>
         { p with reportCount := 0, reportDue := true }))))

/-- The completion of a zero step by a last passing sample. A NORMAL step leaves one step less owed, and a complete
set is accepted within the drift limit or rejected with ZERO_REJECTED (R41, R42, R52). A make-up set's candidate
becomes the zero whatever its distance, and a pending proceed then opens the compartment (R48). A ZERO_NOW set is
judged like a normal set (R50). The spout returns to its origin. -/
def Obligations.StepsComplete : Prop :=
  (∀ (s : State) (i : SpoutId) (raw : BitVec 20) (st : ZeroStep),
     let p := s.spout i
     let sum := p.zero.partialSum + st.sum + raw.toNat
     let steps := match p.zero.cadence with | .z1 => 1 | .z2 => 2 | .z4 => 4
     let candidate := (sum + 128) / 256
     let back := { p with
       reportDue := true
       ctl := { p.ctl with state := match st.origin with | .idle => .idle | .ready => .ready }
       zero := { p.zero with step := none, owed := p.zero.owed - 1 } }
     p.zero.step = some st → st.kind = .normal → st.taken + 1 = st.length →
     (s.gate i).1 ≤ 20 → (s.gate i).2 = false →
     raw.toNat ≤ p.zero.zero + st.band → p.zero.zero ≤ raw.toNat + st.band →
       (p.zero.stepsDone + 1 < steps →
         exec (.stepComplete i raw) s = .next (serveLines (s.upd i fun _ =>
           { back with zero := { back.zero with
               partialSum := sum, stepsDone := p.zero.stepsDone + 1 } }.examineZeroing))) ∧
       (steps ≤ p.zero.stepsDone + 1 →
         candidate ≤ p.zero.zero + p.par.driftLimit → p.zero.zero ≤ candidate + p.par.driftLimit →
         exec (.stepComplete i raw) s = .next (serveLines (s.upd i fun _ =>
           { back with zero := { back.zero with
               zero := candidate, owed := 0, partialSum := 0, stepsDone := 0 } }.examineZeroing))) ∧
       (steps ≤ p.zero.stepsDone + 1 →
         (p.zero.zero + p.par.driftLimit < candidate ∨ candidate + p.par.driftLimit < p.zero.zero) →
         exec (.stepComplete i raw) s = .next (serveLines (s.upd i fun _ =>
           { back with
             alerts := back.alerts.set 2 (back.alerts[2].occur (if candidate < p.zero.zero then 1 else 0))
             zero := { back.zero with partialSum := 0, stepsDone := 0 } }.examineZeroing)))) ∧
  (∀ (s : State) (i : SpoutId) (raw : BitVec 20) (st : ZeroStep),
     let p := s.spout i
     let candidate := (st.sum + raw.toNat + 128) / 256
     let back := { p with
       reportDue := true
       ctl := { p.ctl with state := match st.origin with | .idle => .idle | .ready => .ready }
       zero := { p.zero with step := none } }
     let madeUp := { back with zero := { back.zero with
       zero := candidate, makeupOwed := false, owed := 0, stepsDone := 0, partialSum := 0 } }
     p.zero.step = some st → st.taken + 1 = st.length → (s.gate i).1 ≤ 20 → (s.gate i).2 = false →
       (st.kind = .makeup → (st.origin = .idle ∨ p.zero.pendingProceed = false) →
         exec (.stepComplete i raw) s = .next (serveLines (s.upd i fun _ => madeUp.examineZeroing))) ∧
       (st.kind = .makeup → st.origin = .ready → p.zero.pendingProceed = true →
         exec (.stepComplete i raw) s = .next (serveLines (openCompartment i (s.upd i fun _ => madeUp)))) ∧
       (st.kind = .zeroNow →
         candidate ≤ p.zero.zero + p.par.driftLimit → p.zero.zero ≤ candidate + p.par.driftLimit →
         exec (.stepComplete i raw) s = .next (serveLines (s.upd i fun _ =>
           { back with zero := { back.zero with zero := candidate, owed := 0 } }.examineZeroing))) ∧
       (st.kind = .zeroNow →
         (p.zero.zero + p.par.driftLimit < candidate ∨ candidate + p.par.driftLimit < p.zero.zero) →
         exec (.stepComplete i raw) s = .next (serveLines (s.upd i fun _ =>
           { back with
             alerts := back.alerts.set 2 (back.alerts[2].occur (if candidate < p.zero.zero then 3 else 2)) }.examineZeroing))))

/-- A pacing point of a spout with a FORCE lane, without which it has none (R99, R150), sets the gate order pending in
every state; in COARSE the regulator first moves the ratio by the order's flow limit, and in COARSE and FINE the
demand is updated: aim, ramp, floor (R99, R100, R101, R102). -/
def Obligations.PacingPoint : Prop :=
  ∀ (s : State) (i : SpoutId),
    let p := s.spout i
    let paced := fun (ratio aim : Nat) =>
      let sent :=
        if p.ctl.sentDemand < aim then min (p.ctl.sentDemand + p.par.rampStep) aim
        else max (p.ctl.sentDemand - p.par.rampStep) aim
      { p with
        gatePending := true
        ctl := { p.ctl with
          pacing := 0, ratio := ratio, gateDemand := aim, sentDemand := max sent p.par.minOpening } }
    (s.laneOf i .force).isSome = true → p.ctl.pacing = 7 →
      (p.ctl.state.gateOpen = false →
        exec (.pacingPoint i) s = .next (serveLines (s.upd i fun _ =>
          { p with gatePending := true, ctl := { p.ctl with pacing := 0 } }))) ∧
      (∀ o rest, p.queue = o :: rest → p.ctl.state = .coarse →
        let ratio := match o.flowLimit with
          | none => p.ctl.ratio
          | some f =>
            if f + p.par.deadband < p.chan.filtered then p.ctl.ratio - p.par.regStep
            else if p.chan.filtered + p.par.deadband < f then min 1000 (p.ctl.ratio + p.par.regStep)
            else p.ctl.ratio
        exec (.pacingPoint i) s = .next (serveLines (s.upd i fun _ => paced ratio (o.cap * ratio / 1000)))) ∧
      (p.ctl.state = .fine →
        exec (.pacingPoint i) s = .next (serveLines (s.upd i fun _ => paced p.ctl.ratio p.par.fineOpening)))

/-- The eighth flooding sample in COARSE drops the gate to the fine opening and moves the spout to FINE; the four-
hundredth in FINE takes it to TAILING with end reason FLOOD (R108 to R111). A gate that stands open for 1200 samples
and a pressure wait of 800 fault the spout (R113, R141); 200 samples of lost air hold it (R154). A tail settles, or
ends by its age when the same sample does not settle it; its result is recorded and the spout moves on (R87, R88). A
settle count lowered to or below the run is reached at the next settled sample (R89). -/
def Obligations.FloodGateAirAndTail : Prop :=
  (∀ (s : State) (i : SpoutId),
     let p := s.spout i
     p.par.floodLimit ≠ 0 → p.par.floodLimit < p.chan.filtered →
       (p.ctl.state = .coarse → p.ctl.floodRun = 7 →
         exec (.floodDrop i) s = .next (serveLines (s.upd i fun _ =>
           { p with
             gatePending := true
             reportDue := true
             alerts := p.alerts.set 1 (p.alerts[1].occur 1)
             ctl := { p.ctl with
               state := .fine, stuckRun := 0, resumePhase := some .fine, floodRun := 0
               gateDemand := p.par.fineOpening, sentDemand := max p.par.fineOpening p.par.minOpening } }))) ∧
       (p.ctl.state = .fine → p.ctl.floodRun = 399 →
         exec (.floodClosure i) s = .next (serveLines ((enterTailing .flood i s).upd i fun q =>
           { q with alerts := q.alerts.set 1 (q.alerts[1].occur 2) })))) ∧
  (∀ (s : State) (i : SpoutId),
     let p := s.spout i
     (∀ e, s.roleLane i .gate = some e → 50 < e.latest → p.ctl.stuckRun = 1199 →
       p.ctl.state ≠ .parked → p.ctl.state ≠ .coarse → p.ctl.state ≠ .fine → p.ctl.state ≠ .faulted →
         exec (.gateStuck i) s = .next (serveLines (enterFault .gateStuck i s))) ∧
     (p.ctl.state = .awaitAir → p.ctl.pressureWait = some 799 →
       exec (.airFail i) s = .next (serveLines (enterFault .airFail i s))) ∧
     (∀ e, s.roleLane i .air = some e → (e.latest < p.par.airThreshold ∨ e.stale = true) →
       (p.ctl.state = .coarse ∨ p.ctl.state = .fine) → p.ctl.airLostRun = 199 →
         exec (.airLost i) s = .next (serveLines (enterHeld .air i s)))) ∧
  (∀ (s : State) (i : SpoutId),
     let p := s.spout i
     p.ctl.state = .tailing →
       (p.chan.filtered < p.par.lowCut → p.par.settleCount ≤ p.ctl.settleRun + 1 →
         exec (.tailSettled i) s = .next (serveLines (s.upd i fun p => (p.recordResult (.tail false)).moveOn))) ∧
       (p.ctl.tailAge = 3999 → (p.par.lowCut ≤ p.chan.filtered ∨ p.ctl.settleRun + 1 < p.par.settleCount) →
         exec (.tailTimeout i) s = .next (serveLines (s.upd i fun p => (p.recordResult (.tail true)).moveOn))))

/-- The model's choice (notes/assumptions/3.md): a condition of the sample count that does not stand, because its
count is short, its test fails, the spout's state does not let it act, or the spout has no FORCE lane and so no pacing
points and no reports paced by samples (R150), has no effect, and neither has an expiry of a timer that is stopped
(R7, R38, R41, R46, R77, R87, R88, R99, R109, R110, R113, R141, R154, R169, R171). -/
def Obligations.ConditionsNotReached : Prop :=
  ∀ (s : State) (i : SpoutId) (raw : BitVec 20),
    let p := s.spout i
    let idle : Instr → Prop := fun c => exec c s = .next (serveLines s)
    let steps := match p.zero.cadence with | .z1 => 1 | .z2 => 2 | .z4 => 4
    let settles := p.chan.filtered < p.par.lowCut ∧ p.par.settleCount ≤ p.ctl.settleRun + 1
    (p.chan.missingRun < 4 → idle (.sampleLoss i)) ∧
    ((p.ctl.state = .parked ∨ p.zero.dueCount + 1 < p.par.zeroInterval * 400 / steps) → idle (.duePoint i)) ∧
    (p.zero.step = none → idle (.stepComplete i raw)) ∧
    (∀ st, p.zero.step = some st →
      (st.taken + 1 < st.length ∨ 20 < (s.gate i).1 ∨ (s.gate i).2 = true ∨
        (st.kind = .normal ∧ (p.zero.zero + st.band < raw.toNat ∨ raw.toNat + st.band < p.zero.zero))) →
      idle (.stepComplete i raw)) ∧
    ((∀ n, p.zero.retryWait = some n → 1 < n) → idle (.retryWaitEnd i)) ∧
    ((s.laneOf i .force = none ∨ p.ctl.pacing < 7) → idle (.pacingPoint i)) ∧
    ((s.laneOf i .force = none ∨ p.reportCount + 1 < p.par.reportInterval) → idle (.reportIntervalExpiry i)) ∧
    ((p.ctl.state ≠ .coarse ∨ p.par.floodLimit = 0 ∨ p.chan.filtered ≤ p.par.floodLimit ∨ p.ctl.floodRun < 7) →
      idle (.floodDrop i)) ∧
    ((p.ctl.state ≠ .fine ∨ p.par.floodLimit = 0 ∨ p.chan.filtered ≤ p.par.floodLimit ∨ p.ctl.floodRun < 399) →
      idle (.floodClosure i)) ∧
    ((p.ctl.state ∈ [.parked, .coarse, .fine, .faulted] ∨ (s.gate i).1 ≤ 50 ∨ p.ctl.stuckRun < 1199) →
      idle (.gateStuck i)) ∧
    ((p.ctl.state ≠ .awaitAir ∨ ∀ n, p.ctl.pressureWait = some n → n < 799) → idle (.airFail i)) ∧
    ((p.ctl.state ∉ [.coarse, .fine] ∨ s.airReached i = true ∨ p.ctl.airLostRun < 199) → idle (.airLost i)) ∧
    ((p.ctl.state ≠ .tailing ∨ ¬ settles) → idle (.tailSettled i)) ∧
    ((p.ctl.state ≠ .tailing ∨ settles ∨ p.ctl.tailAge < 3999) → idle (.tailTimeout i)) ∧
    (s.timer = none → idle .silenceExpiry)

/-- The expiry of the silence timer, which as a command acts on a running timer whatever time has elapsed (the model's
choice, notes/assumptions/4.md): the spouts in AWAIT_AIR, COARSE and FINE enter HELD with reason SILENCE, one after
another in an order that nothing fixes (Config.pick, notes/assumptions/2.md), the timer stops, the silent flag is set,
and SILENCE is raised with their number (R64, R168, R171). -/
def Obligations.SilenceExpiry : Prop :=
  ∀ (s : State) (n : Nat), s.timer = some n → ∃ is : List SpoutId,
    is.Perm (spoutIds.filter fun i =>
      (s.spout i).ctl.state == .awaitAir || (s.spout i).ctl.state == .coarse || (s.spout i).ctl.state == .fine) ∧
    exec .silenceExpiry s = .next (serveLines
      (let u := is.foldl (fun u i => enterHeld .silence i u) { s with timer := none, silent := true }
       { u with
         freeCount := s.freeCount + (is.length - 1)
         silenceMark := s.silenceMark.occur is.length }))

/-! ### Conditions of real time and of the field -/

/-- A GATE, AIR, PROBE or BAY lane becomes stale once for each silence, and a PROBE or BAY lane then acts as a tripped
probe or a withdrawn bay (R148; the command acts whatever the age, notes/assumptions/4.md). A LANE_STALE of a lane
without an entry, or of a FORCE lane, which R9 starves instead, has no effect (R77; the model's reading,
notes/assumptions/4.md). The interlocks act by the state they find, and a spout in ARMED whose permissives hold enters
AWAIT_AIR (R142, R151, R152, R153). -/
def Obligations.StaleLanesAndInterlocks : Prop :=
  ((∀ (s : State) (l : LaneId), s.lane l = none → exec (.laneStale l) s = .next (serveLines s)) ∧
   (∀ (s : State) (l : LaneId) (e : Lane), s.lane l = some e →
     let stale := s.setLane l (some { e with age := 200, stale := true, lastSeq := none })
     ((e.stale = true ∨ e.role = .force) → exec (.laneStale l) s = .next (serveLines s)) ∧
     (e.stale = false → (e.role = .gate ∨ e.role = .air) → exec (.laneStale l) s = .next (serveLines stale)) ∧
     (e.stale = false → e.role = .probe → exec (.laneStale l) s = .next (serveLines (probeCondition e.spout stale))) ∧
     (e.stale = false → e.role = .bay → exec (.laneStale l) s = .next (serveLines (bayCondition e.spout stale))))) ∧
  (∀ (s : State) (i : SpoutId),
     let p := s.spout i
     let back := s.released i
       { p with
         place := .neither
         reportDue := true
         gatePending := p.gatePending || p.place == .holder
         ctl := { p.ctl with state := .armed, pressureWait := p.waitOnRelease } }
     let joins := grantDecision (s.upd i fun p =>
       { p with reportDue := true, place := .waiter, ctl := { p.ctl with state := .awaitAir } })
     (p.ctl.state ∈ [.coarse, .fine, .held] → probeCondition i s = enterTailing .probe i s) ∧
     (p.ctl.state = .awaitAir → probeCondition i s = back) ∧
     (p.ctl.state ∉ [.coarse, .fine, .held, .awaitAir] → probeCondition i s = s) ∧
     (p.ctl.state ∈ [.awaitAir, .coarse, .fine] → bayCondition i s = enterHeld .bay i s) ∧
     (p.ctl.state ∉ [.awaitAir, .coarse, .fine] → bayCondition i s = s) ∧
     (p.ctl.state = .armed → s.permitted i = true → examineArmed i s = joins) ∧
     ((p.ctl.state ≠ .armed ∨ s.permitted i = false) → examineArmed i s = s) ∧
     (s.permitted i = true ↔ s.silent = false ∧
       (∀ e, s.roleLane i .bay = some e → e.latest = 1 ∧ e.stale = false) ∧
       (∀ e, s.roleLane i .probe = some e → e.latest = 0 ∧ e.stale = false)))

/-! ### The F-port -/

/-- The course of a run of bytes at the F-port: a framing error, another type, an unrouted SAMPLE, a malformed one,
one with a bad CRC, and a good one, which is copied toward the plant if its lane forwards and then goes to its lane's
role (R146, R156, R159, R161). A frame that is to pass joins its FIFO, or, finding it full, is dropped and counted,
and LINK_OVERRUN is raised (R163, R164). -/
def Obligations.FieldFramesRouted : Prop :=
  (∀ (s : State) (run : Run),
     let isSample := run.getD 0 0 = (0x10 : Byte)
     let framed := 4 ≤ run.length ∧ run.length ≤ 40
     let lane := byteAt run 1
     (¬ framed → exec (.fPortFrame run) s = .next (serveLines { s with framingCount := s.framingCount.bump })) ∧
     (framed → ¬ isSample → exec (.fPortFrame run) s = .next (serveLines (passToPlant run s))) ∧
     (framed → isSample → (∀ l : LaneId, l.val = lane → s.lane l = none) →
       exec (.fPortFrame run) s = .next (serveLines (passToPlant run s))) ∧
     (∀ (l : LaneId) (e : Lane), framed → isSample → l.val = lane → s.lane l = some e → run.length ≠ 7 →
       exec (.fPortFrame run) s = .next (serveLines { s with framingCount := s.framingCount.bump })) ∧
     (∀ (l : LaneId) (e : Lane), isSample → l.val = lane → s.lane l = some e → run.length = 7 →
       run.getLastD 0 ≠ crcOf run.dropLast →
       exec (.fPortFrame run) s = .next (serveLines (s.setLane l (some { e with crc := e.crc.bump })))) ∧
     (∀ (l : LaneId) (e : Lane), isSample → l.val = lane → s.lane l = some e → run.length = 7 →
       run.getLastD 0 = crcOf run.dropLast →
       let copied := if e.forward then passToPlant run s else s
       let seq := run.getD 2 0
       let hs : HeadStatus := match byteAt run 3 / 64 with | 0 => .ok | 1 => .clipped | _ => .headFault
       let v := (byteAt run 3 % 16) * 65536 + (byteAt run 4 * 256 + byteAt run 5)
       (e.role = .force →
         exec (.fPortFrame run) s = .next (serveLines (deliverForce l e.spout seq hs v copied))) ∧
       (e.role ≠ .force → exec (.fPortFrame run) s = .next (serveLines (takeLatest l e seq hs v copied))))) ∧
  (∀ (s : State) (run : Run),
     let counted := if s.overrunCount.count < 127 then { s.overrunCount with count := s.overrunCount.count + 1 }
       else ⟨127, true⟩
     (s.plantFifo.length < 24 → passToPlant run s = { s with plantFifo := s.plantFifo ++ [run] }) ∧
     (24 ≤ s.plantFifo.length →
       passToPlant run s = { s with overrunCount := counted, overrunMark := s.overrunMark.occur 1 }) ∧
     (s.fieldFifo.length < 16 → passToField run s = { s with fieldFifo := s.fieldFifo ++ [run] }) ∧
     (16 ≤ s.fieldFifo.length →
       passToField run s = { s with overrunCount := counted, overrunMark := s.overrunMark.occur 2 }))

/-- A good SAMPLE frame with head status OK that follows its predecessor on a FORCE lane, with a net force within its
limit: the raw value becomes net force, flow on the selected bank, trimmed flow and unfiltered flow; this enters the
window and, with a compartment open, the accumulator; then the sample is handed on (R3, R4, R8, R11 to R20). A CLIPPED
sample and one above the limit take the same course with the limited net force, and set the mark and raise
FORCE_OVERRANGE while it is clear. The overrange mark and FORCE_OVERRANGE of any sample (R12). -/
def Obligations.GoodForceSample : Prop :=
  (∀ (s : State) (l : LaneId) (e : Lane) (seq : Byte) (raw : BitVec 20),
     let p := s.spout e.spout
     let bytes : List Byte :=
       [0x10, byte l.val, seq, byte (raw.toNat / 65536), byte (raw.toNat / 256), byte raw.toNat]
     let run := bytes ++ [crcOf bytes]
     let n := raw.toNat - p.zero.zero
     let f := fun k => (p.curve.points p.curve.selected).getD k 0
     let k := n / 16384
     let q := f k + ((f (k + 1) - f k) * (n - 16384 * k) + 8192) / 16384
     let trimmed := min 20000 ((q * p.par.span + 2048) / 4096)
     let u := if p.ctl.state = .coarse ∨ p.ctl.state = .fine ∨ p.par.lowCut ≤ trimmed then trimmed else 0
     let window := p.chan.window.drop 1 ++ [u]
     let acc := p.chan.acc + u
     let fresh := (if e.forward then passToPlant run s else s).setLane l (some { e with age := 0, stale := false })
     let metered := { p.chan with
       lastSeq := some seq, missingRun := 0, lastGood := u, window := window, filtered := window.sum / 8 }
     s.lane l = some e → e.role = .force → (p.chan.lastSeq = some (seq - 1) ∨ p.chan.lastSeq = none) → n ≤ 262143 →
       (p.ctl.state.compartmentOpen = true → acc ≤ 4294967295 →
         exec (.fPortFrame run) s = .next (serveLines (handOn e.spout (some (raw.toNat, .ok)) (fresh.upd e.spout fun p =>
           { p with chan := { metered with acc := acc, massG := acc / 40 } })))) ∧
       (p.ctl.state.compartmentOpen = true → 4294967295 < acc →
         exec (.fPortFrame run) s = .next (serveLines (handOn e.spout (some (raw.toNat, .ok)) (fresh.upd e.spout fun p =>
           { p with chan := { metered with acc := 4294967295, massG := 107374182, satMark := true } })))) ∧
       (p.ctl.state.compartmentOpen = false →
         exec (.fPortFrame run) s = .next (serveLines (handOn e.spout (some (raw.toNat, .ok)) (fresh.upd e.spout fun p =>
           { p with chan := { metered with overrange := false } }))))) ∧
  (∀ (s : State) (l : LaneId) (e : Lane) (seq : Byte) (raw : BitVec 20) (hs : HeadStatus),
     let p := s.spout e.spout
     let bytes : List Byte :=
       [0x10, byte l.val, seq, byte ((if hs = .clipped then 64 else 0) + raw.toNat / 65536), byte (raw.toNat / 256),
        byte raw.toNat]
     let run := bytes ++ [crcOf bytes]
     let above := p.zero.zero + 262143 < raw.toNat
     let n := min 262143 (raw.toNat - p.zero.zero)
     let f := fun k => (p.curve.points p.curve.selected).getD k 0
     let k := n / 16384
     let q := f k + ((f (k + 1) - f k) * (n - 16384 * k) + 8192) / 16384
     let trimmed := min 20000 ((q * p.par.span + 2048) / 4096)
     let u := if p.ctl.state = .coarse ∨ p.ctl.state = .fine ∨ p.par.lowCut ≤ trimmed then trimmed else 0
     let window := p.chan.window.drop 1 ++ [u]
     let acc := p.chan.acc + u
     let fresh := (if e.forward then passToPlant run s else s).setLane l (some { e with age := 0, stale := false })
     let detail := (if above then 1 else 0) + (if hs = .clipped then 2 else 0)
     let alerts := if p.chan.overrange then p.alerts else p.alerts.set 0 (p.alerts[0].occur detail)
     let metered := { p.chan with
       lastSeq := some seq, missingRun := 0, lastGood := u, window := window, filtered := window.sum / 8
       overrange := true }
     let gives := fun c : Channel =>
       exec (.fPortFrame run) s = .next (serveLines (handOn e.spout (some (raw.toNat, hs)) (fresh.upd e.spout fun p =>
         { p with alerts := alerts, chan := c })))
     s.lane l = some e → e.role = .force → (p.chan.lastSeq = some (seq - 1) ∨ p.chan.lastSeq = none) →
     hs ≠ .headFault → (above ∨ hs = .clipped) →
       (p.ctl.state.compartmentOpen = true → acc ≤ 4294967295 → gives { metered with acc := acc, massG := acc / 40 }) ∧
       (p.ctl.state.compartmentOpen = true → 4294967295 < acc →
         gives { metered with acc := 4294967295, massG := 107374182, satMark := true }) ∧
       (p.ctl.state.compartmentOpen = false → gives metered)) ∧
  (∀ (p : Spout) (raw : Nat) (hs : HeadStatus),
     let above := p.zero.zero + 262143 < raw
     let clipped := hs = .clipped
     let detail := (if above then 1 else 0) + (if clipped then 2 else 0)
     ((above ∨ clipped) → p.chan.overrange = false → p.watchRange raw hs =
       { p with
         chan := { p.chan with overrange := true }
         alerts := p.alerts.set 0 (p.alerts[0].occur detail) }) ∧
     ((above ∨ clipped) → p.chan.overrange = true → p.watchRange raw hs = p) ∧
     (¬ (above ∨ clipped) → p.ctl.state.compartmentOpen = true → p.watchRange raw hs = p) ∧
     (¬ (above ∨ clipped) → p.ctl.state.compartmentOpen = false →
       p.watchRange raw hs = { p with chan := { p.chan with overrange := false } }) ∧
     (above → netForce raw p.zero.zero = 262143))

/-- Frames on a FORCE lane with a sequence distance other than 1, and HEAD_FAULT: a duplicate is only counted; the
missing samples of a gap and of a HEAD_FAULT frame are taken one at a time; one that leaves the run at 4 or less is
filled with the last good flow and handed on, the accumulator saturating, and a zero step in progress is abandoned
before the fill (R3 to R7, R18, R43). One that takes the run above 4 is counted and not filled, and faults a spout
with a compartment open (R7). A sample handed on to a PARKED spout with no step and no retry wait counts toward the
pacing point and the report interval and does nothing else (R20, R99, R112, R169). -/
def Obligations.MissingForceSamples : Prop :=
  ((∀ (s : State) (l : LaneId) (i : SpoutId) (seq : Byte) (hs : HeadStatus) (v : Nat),
     let p := s.spout i
     let accepted := (s.updLane l fun e => { e with age := 0, stale := false }).upd i fun p =>
       { p with chan := { p.chan with lastSeq := some seq } }
     (p.chan.lastSeq = some seq → deliverForce l i seq hs v s = s.updLane l fun e => { e with dup := e.dup.bump }) ∧
     (∀ last, p.chan.lastSeq = some last → last ≠ seq → hs ≠ .headFault →
       deliverForce l i seq hs v s = goodSample i v hs (missingSamples l i ((seq - last).toNat - 1) accepted)) ∧
     (∀ last, p.chan.lastSeq = some last → last ≠ seq →
       deliverForce l i seq .headFault v s = missingSamples l i (seq - last).toNat accepted) ∧
     (p.chan.lastSeq = none → hs ≠ .headFault → deliverForce l i seq hs v s = goodSample i v hs accepted) ∧
     (p.chan.lastSeq = none → deliverForce l i seq .headFault v s = missingSample l i accepted)) ∧
   (∀ (s : State) (l : LaneId) (i : SpoutId) (n : Nat),
     missingSamples l i (n + 1) s = missingSamples l i n (missingSample l i s)) ∧
   (∀ (s : State) (l : LaneId) (i : SpoutId), (s.spout i).chan.missingRun ≤ 3 →
     (s.spout i).zero.step = none →
     let p := s.spout i
     let window := p.chan.window.drop 1 ++ [p.chan.lastGood]
     let filled := { p.chan with
       missingRun := p.chan.missingRun + 1, window := window, filtered := window.sum / 8 }
     let acc := p.chan.acc + p.chan.lastGood
     let counted := s.updLane l fun e => { e with gap := e.gap.bump }
     (p.ctl.state.compartmentOpen = false →
       missingSample l i s = handOn i none (counted.upd i fun p => { p with chan := filled })) ∧
     (p.ctl.state.compartmentOpen = true → acc ≤ 4294967295 →
       missingSample l i s = handOn i none (counted.upd i fun p =>
         { p with chan := { filled with acc := acc, massG := acc / 40, fillMark := true } })) ∧
     (p.ctl.state.compartmentOpen = true → 4294967295 < acc →
       missingSample l i s = handOn i none (counted.upd i fun p =>
         { p with chan := { filled with acc := 4294967295, massG := 107374182, satMark := true, fillMark := true } }))) ∧
   (∀ (s : State) (l : LaneId) (i : SpoutId) (st : ZeroStep), (s.spout i).chan.missingRun ≤ 3 →
     (s.spout i).ctl.state = .zeroing → (s.spout i).zero.step = some st →
     let p := s.spout i
     let window := p.chan.window.drop 1 ++ [p.chan.lastGood]
     missingSample l i s = handOn i none ((s.updLane l fun e => { e with gap := e.gap.bump }).upd i fun p =>
       { p with
         reportDue := true
         ctl := { p.ctl with state := match st.origin with | .idle => .idle | .ready => .ready }
         zero := { p.zero with step := none, retryWait := some 400 }
         chan := { p.chan with
           missingRun := p.chan.missingRun + 1, window := window, filtered := window.sum / 8 } }))) ∧
  (∀ (s : State) (l : LaneId) (i : SpoutId), 4 ≤ (s.spout i).chan.missingRun →
     let counted := (s.updLane l fun e => { e with gap := e.gap.bump }).upd i fun p =>
       { p with chan := { p.chan with missingRun := min 255 (p.chan.missingRun + 1) } }
     ((s.spout i).ctl.state.compartmentOpen = true → (s.spout i).zero.step = none →
       missingSample l i s = enterFault .sampleLoss i counted) ∧
     ((s.spout i).ctl.state.compartmentOpen = false → missingSample l i s = abandonStep i counted)) ∧
  (∀ (s : State) (i : SpoutId) (sample : Option (Nat × HeadStatus)),
     let p := s.spout i
     p.ctl.state = .parked → p.zero.step = none → p.zero.retryWait = none →
       handOn i sample s = s.upd i fun p =>
         { p with
           gatePending := p.gatePending || p.ctl.pacing ≥ 7
           reportDue := p.reportDue || p.reportCount + 1 ≥ p.par.reportInterval
           reportCount := if p.par.reportInterval ≤ p.reportCount + 1 then 0 else p.reportCount + 1
           ctl := { p.ctl with pacing := if 7 ≤ p.ctl.pacing then 0 else p.ctl.pacing + 1, stuckRun := 0 } })

/-- The checks that a sample handed on meets, in their order: the duration, the tests of the cutoff or the tail, the
flood run, the pacing count, the air-lost run, the pressure wait and the stuck-gate run, then the zero tracker's due
counter, step and retry wait, then the report interval, each in the state that the one before it left (R20, R61, R84,
R99, R112, R141, R154). A step or a wait that the sample itself brings about does not count it
(notes/assumptions/12.md). Where the sample brings a due point and completes a step, either is first (R48;
Config.dueFirst, notes/assumptions/2.md). Each check counts, or brings its condition about: the tail's end (R87, R88),
the flood drop and closure (R108 to R111), the pacing point (R99 to R102), air lost (R154), air fail (R141), the stuck
gate (R113), the due point (R38, R39), the retry wait's end (R46), the step's sample, completion and abandonment (R41,
R43) and the report interval (R169). So a sample, in any state, that brings none of the conditions about changes the
counts and nothing else: the duration (R61), the due counter (R38), the retry wait (R46), the flood run (R108), the
pacing count (R99), the air-lost run (R154), the pressure wait (R141), the stuck-gate run (R112), the tail age and
settle run (R87, R88) and the report interval (R169). A pacing point outside COARSE and FINE and a report interval
only set their flags. A sample that passes the test of a zero step joins it, and one that fails it abandons the step
with a retry wait of 400 that does not count the sample (R20, R41, R43; the last, notes/assumptions/11.md). -/
def Obligations.SampleCounts : Prop :=
  (∀ (s : State) (i : SpoutId) (sample : Option (Nat × HeadStatus)),
     let opens := fun t : State => (t.spout i).ctl.state = .coarse ∨ (t.spout i).ctl.state = .fine
     let s0 := s.upd i fun p =>
       { p with ctl := { p.ctl with
           duration := if p.ctl.state.compartmentOpen then min 4294967295 (p.ctl.duration + 1) else p.ctl.duration } }
     let s1 :=
       if opens s0 then cutoffTests i s0
       else if (s0.spout i).ctl.state = .tailing then s0.upd i Spout.countTail
       else s0
     let s2 := if opens s1 then countFlood i s1 else s1
     let s3 := s2.upd i Spout.countPacing
     let s4 := if opens s3 then countAirLost i s3 else s3
     let s5 := if (s4.spout i).ctl.state = .awaitAir then countPressureWait i s4 else s4
     let s6 := countStuck i s5
     let step := fun t : State =>
       if (s.spout i).zero.step ≠ none ∧ (t.spout i).zero.step ≠ none then stepSample i sample t else t
     let last := fun t : State =>
       (if (s.spout i).zero.retryWait ≠ none ∧ (t.spout i).zero.retryWait ≠ none then countRetry i t else t).upd i
         Spout.countReport
     let completes := (s.spout i).zero.step ≠ none ∧ ∃ raw hs, sample = some (raw, hs) ∧ s6.completesStep i raw hs = true
     let due := (s6.spout i).dueReached = true
     let u := { s6 with freeCount := s6.freeCount + 1 }
     (¬ (due ∧ completes) → handOn i sample s = last (step (countDue i s6))) ∧
     (due → completes →
       handOn i sample s = last (if Config.dueFirst s6.freeCount then step (countDue i u) else countDue i (step u)))) ∧
  (∀ (s : State) (i : SpoutId),
     let p := s.spout i
     let settles := p.chan.filtered < p.par.lowCut ∧ p.par.settleCount ≤ p.ctl.settleRun + 1
     let flooding := p.par.floodLimit ≠ 0 ∧ p.par.floodLimit < p.chan.filtered
     let paced := fun (ratio aim : Nat) =>
       let sent :=
         if p.ctl.sentDemand < aim then min (p.ctl.sentDemand + p.par.rampStep) aim
         else max (p.ctl.sentDemand - p.par.rampStep) aim
       { p with
         gatePending := true
         ctl := { p.ctl with
           pacing := 0, ratio := ratio, gateDemand := aim, sentDemand := max sent p.par.minOpening } }
     let runs := fun (f : Control → Control) => s.upd i fun q => { q with ctl := f q.ctl }
     (p.ctl.state = .tailing →
       (settles → p.countTail = (p.recordResult (.tail false)).moveOn) ∧
       (¬ settles → 3999 ≤ p.ctl.tailAge → p.countTail = (p.recordResult (.tail true)).moveOn) ∧
       (¬ settles → p.ctl.tailAge < 3999 → p.countTail =
         { p with ctl := { p.ctl with
             tailAge := p.ctl.tailAge + 1
             settleRun := if p.chan.filtered < p.par.lowCut then p.ctl.settleRun + 1 else 0 } })) ∧
     (p.ctl.state = .coarse → flooding → 7 ≤ p.ctl.floodRun →
       countFlood i s = s.upd i fun q =>
         { q with
           gatePending := true
           reportDue := true
           alerts := q.alerts.set 1 (q.alerts[1].occur 1)
           ctl := { q.ctl with
             state := .fine, stuckRun := 0, resumePhase := some .fine, floodRun := 0
             gateDemand := q.par.fineOpening, sentDemand := max q.par.fineOpening q.par.minOpening } }) ∧
     (p.ctl.state = .fine → flooding → 399 ≤ p.ctl.floodRun →
       countFlood i s = (enterTailing .flood i s).upd i fun q =>
         { q with alerts := q.alerts.set 1 (q.alerts[1].occur 2) }) ∧
     (flooding → (p.ctl.state = .coarse → p.ctl.floodRun < 7) → (p.ctl.state = .fine → p.ctl.floodRun < 399) →
       countFlood i s = runs fun c => { c with floodRun := c.floodRun + 1 }) ∧
     (¬ flooding → countFlood i s = runs fun c => { c with floodRun := 0 }) ∧
     (p.ctl.pacing < 7 → p.countPacing = { p with ctl := { p.ctl with pacing := p.ctl.pacing + 1 } }) ∧
     (7 ≤ p.ctl.pacing →
       (p.ctl.state.gateOpen = false →
         p.countPacing = { p with gatePending := true, ctl := { p.ctl with pacing := 0 } }) ∧
       (∀ o rest, p.queue = o :: rest → p.ctl.state = .coarse →
         let ratio := match o.flowLimit with
           | none => p.ctl.ratio
           | some f =>
             if f + p.par.deadband < p.chan.filtered then p.ctl.ratio - p.par.regStep
             else if p.chan.filtered + p.par.deadband < f then min 1000 (p.ctl.ratio + p.par.regStep)
             else p.ctl.ratio
         p.countPacing = paced ratio (o.cap * ratio / 1000)) ∧
       (p.ctl.state = .fine → p.countPacing = paced p.ctl.ratio p.par.fineOpening)) ∧
     (s.airReached i = true ↔
       ∃ e, s.roleLane i .air = some e ∧ p.par.airThreshold ≤ e.latest ∧ e.stale = false) ∧
     (s.airReached i = true → countAirLost i s = runs fun c => { c with airLostRun := 0 }) ∧
     (s.airReached i = false → p.ctl.airLostRun < 199 →
       countAirLost i s = runs fun c => { c with airLostRun := c.airLostRun + 1 }) ∧
     (s.airReached i = false → p.ctl.state.gateOpen = true → 199 ≤ p.ctl.airLostRun →
       countAirLost i s = enterHeld .air i s) ∧
     (∀ n, p.ctl.state = .awaitAir → p.ctl.pressureWait = some n →
       (799 ≤ n → countPressureWait i s = enterFault .airFail i s) ∧
       (n < 799 → countPressureWait i s = runs fun c => { c with pressureWait := some (n + 1) })) ∧
     (p.ctl.pressureWait = none → countPressureWait i s = s) ∧
     ((p.ctl.state ∈ [.parked, .coarse, .fine, .faulted] ∨ (s.gate i).1 ≤ 50) →
       countStuck i s = runs fun c => { c with stuckRun := 0 }) ∧
     (p.ctl.state ∉ [.parked, .coarse, .fine, .faulted] → 50 < (s.gate i).1 →
       (p.ctl.stuckRun < 1199 → countStuck i s = runs fun c => { c with stuckRun := c.stuckRun + 1 }) ∧
       (1199 ≤ p.ctl.stuckRun → countStuck i s = enterFault .gateStuck i s))) ∧
  (∀ (s : State) (i : SpoutId),
     let p := s.spout i
     let steps := match p.zero.cadence with | .z1 => 1 | .z2 => 2 | .z4 => 4
     let owing := { p with zero := { p.zero with dueCount := 0, owed := min 8 (p.zero.owed + 1) } }
     (p.dueReached = true ↔ p.ctl.state ≠ .parked ∧ p.par.zeroInterval * 400 / steps ≤ p.zero.dueCount + 1) ∧
     (p.ctl.state = .parked → countDue i s = s) ∧
     (p.ctl.state ≠ .parked → p.dueReached = false →
       countDue i s = s.upd i fun p => { p with zero := { p.zero with dueCount := p.zero.dueCount + 1 } }) ∧
     (p.dueReached = true → p.zero.owed ≠ 7 → countDue i s = s.upd i fun _ => owing.examineZeroing) ∧
     (p.dueReached = true → p.zero.owed = 7 →
       let detail := if p.ctl.state.compartmentOpen then 1 else 0
       countDue i s = s.upd i fun _ =>
         { owing with alerts := owing.alerts.set 3 (owing.alerts[3].occur detail) }.examineZeroing) ∧
     (∀ n, p.zero.retryWait = some n →
       (1 < n → countRetry i s = s.upd i fun p => { p with zero := { p.zero with retryWait := some (n - 1) } }) ∧
       (n ≤ 1 → countRetry i s = s.upd i fun _ => { p with zero := { p.zero with retryWait := none } }.examineZeroing)) ∧
     (∀ st, p.zero.step = some st →
       let passes := fun raw : Nat => (s.gate i).1 ≤ 20 ∧ (s.gate i).2 = false ∧
         (st.kind = .normal → raw ≤ p.zero.zero + st.band ∧ p.zero.zero ≤ raw + st.band)
       (∀ sample : Option (Nat × HeadStatus), (∀ raw, sample = some (raw, .ok) → ¬ passes raw) →
         stepSample i sample s = abandonStep i s) ∧
       (∀ raw : BitVec 20, passes raw.toNat →
         let taken := s.upd i fun p =>
           { p with zero := { p.zero with step := some { st with taken := st.taken + 1, sum := st.sum + raw.toNat } } }
         (st.taken + 1 < st.length → stepSample i (some (raw.toNat, .ok)) s = taken) ∧
         (st.length ≤ st.taken + 1 →
           stepSample i (some (raw.toNat, .ok)) s = completeStep i taken ∧
           exec (.stepComplete i raw) s = .next (serveLines (completeStep i taken))))) ∧
     (p.countReport =
       if p.par.reportInterval ≤ p.reportCount + 1 then { p with reportCount := 0, reportDue := true }
       else { p with reportCount := p.reportCount + 1 })) ∧
  (∀ (s : State) (i : SpoutId) (sample : Option (Nat × HeadStatus)),
     let p := s.spout i
     let steps := match p.zero.cadence with | .z1 => 1 | .z2 => 2 | .z4 => 4
     let settles := p.chan.filtered < p.par.lowCut ∧ p.par.settleCount ≤ p.ctl.settleRun + 1
     (p.ctl.state.gateOpen = true → p.ctl.pacing < 7 ∧ (s.airReached i = true ∨ p.ctl.airLostRun < 199) ∧
       ∃ c, p.ctl.openComp = some c ∧
         let predicted := p.chan.massG + p.chan.filtered * p.ctl.tau / 40
         predicted < c.targetKg * 1000 ∧
           (p.ctl.state = .coarse → p.par.fineBand * 1000 < c.targetKg * 1000 - predicted)) →
     (p.par.floodLimit ≠ 0 → p.par.floodLimit < p.chan.filtered →
       (p.ctl.state = .coarse → p.ctl.floodRun < 7) ∧ (p.ctl.state = .fine → p.ctl.floodRun < 399)) →
     (p.ctl.state = .awaitAir → ∀ n, p.ctl.pressureWait = some n → n < 799) →
     (p.ctl.state ∈ [.parked, .coarse, .fine, .faulted] ∨ (s.gate i).1 ≤ 50 ∨ p.ctl.stuckRun < 1199) →
     (p.ctl.state = .tailing → ¬ settles ∧ p.ctl.tailAge < 3999) →
     (p.ctl.state = .parked ∨ p.zero.dueCount + 1 < p.par.zeroInterval * 400 / steps) →
     (∀ n, p.zero.retryWait = some n → 1 < n) →
     let counted : Spout :=
       { p with
         gatePending := p.gatePending || 7 ≤ p.ctl.pacing
         reportDue := p.reportDue || p.par.reportInterval ≤ p.reportCount + 1
         reportCount := if p.par.reportInterval ≤ p.reportCount + 1 then 0 else p.reportCount + 1
         zero := { p.zero with
           dueCount := if p.ctl.state = .parked then p.zero.dueCount else p.zero.dueCount + 1
           retryWait := p.zero.retryWait.map fun n => n - 1 }
         ctl := { p.ctl with
           duration := if p.ctl.state.compartmentOpen then min 4294967295 (p.ctl.duration + 1) else p.ctl.duration
           pacing := if 7 ≤ p.ctl.pacing then 0 else p.ctl.pacing + 1
           floodRun :=
             if p.ctl.state.gateOpen = false then p.ctl.floodRun
             else if p.par.floodLimit ≠ 0 ∧ p.par.floodLimit < p.chan.filtered then p.ctl.floodRun + 1 else 0
           airLostRun :=
             if p.ctl.state.gateOpen = false then p.ctl.airLostRun
             else if s.airReached i then 0 else p.ctl.airLostRun + 1
           pressureWait :=
             if p.ctl.state = .awaitAir then p.ctl.pressureWait.map fun n => n + 1 else p.ctl.pressureWait
           stuckRun :=
             if p.ctl.state ∈ [.parked, .coarse, .fine, .faulted] ∨ (s.gate i).1 ≤ 50 then 0 else p.ctl.stuckRun + 1
           tailAge := if p.ctl.state = .tailing then p.ctl.tailAge + 1 else p.ctl.tailAge
           settleRun :=
             if p.ctl.state ≠ .tailing then p.ctl.settleRun
             else if p.chan.filtered < p.par.lowCut then p.ctl.settleRun + 1 else 0 } }
     let passes : ZeroStep → Nat → Prop := fun st raw =>
       (s.gate i).1 ≤ 20 ∧ (s.gate i).2 = false ∧
         (st.kind = .normal → raw ≤ p.zero.zero + st.band ∧ p.zero.zero ≤ raw + st.band)
     (p.zero.step = none → handOn i sample s = s.upd i fun _ => counted) ∧
     (∀ st raw, p.zero.step = some st → sample = some (raw, .ok) → passes st raw → st.taken + 1 < st.length →
       handOn i sample s = s.upd i fun _ =>
         { counted with zero := { counted.zero with
           step := some { st with taken := st.taken + 1, sum := st.sum + raw } } }) ∧
     (∀ st, p.zero.step = some st → p.ctl.state = .zeroing → p.zero.retryWait = none →
       (∀ raw, sample = some (raw, .ok) → ¬ passes st raw) →
       handOn i sample s = s.upd i fun _ =>
         { counted with
           reportDue := true
           ctl := { counted.ctl with state := match st.origin with | .idle => .idle | .ready => .ready }
           zero := { counted.zero with step := none, retryWait := some 400 } }))

/-- The two tests of a sample in COARSE or FINE, the cutoff first (R81 to R84, R104). A sample handed on whose
prediction reaches the target leaves the spout in TAILING with end reason NORMAL, its gate shut, its grant released
and the tail data of that very sample, whatever the later checks and the zero tracker do with it (R20, R67, R86, R105,
R142). -/
def Obligations.CutoffShutsGate : Prop :=
  (∀ (s : State) (i : SpoutId) (c : OpenCompartment),
     let p := s.spout i
     let predicted := p.chan.massG + p.chan.filtered * p.ctl.tau / 40
     let target := c.targetKg * 1000
     p.ctl.openComp = some c →
       (target ≤ predicted → cutoffTests i s = enterTailing .normal i s) ∧
       (predicted < target → p.ctl.state = .coarse → target - predicted ≤ p.par.fineBand * 1000 →
         cutoffTests i s = s.upd i fun p =>
           { p with
             reportDue := true
             ctl := { p.ctl with
               state := .fine, stuckRun := 0, resumePhase := some .fine, gateDemand := p.par.fineOpening
               floodRun := 0 } }) ∧
       (predicted < target → (p.ctl.state ≠ .coarse ∨ p.par.fineBand * 1000 < target - predicted) →
         cutoffTests i s = s)) ∧
  (∀ (s : State) (i : SpoutId) (c : OpenCompartment) (sample : Option (Nat × HeadStatus)),
     let p := s.spout i
     p.recordSound → p.runsSound → (p.ctl.state = .coarse ∨ p.ctl.state = .fine) → p.ctl.openComp = some c →
     c.targetKg * 1000 ≤ p.chan.massG + p.chan.filtered * p.ctl.tau / 40 →
       let q := (handOn i sample s).spout i
       q.ctl.state = .tailing ∧ q.ctl.endReason = some .normal ∧ q.ctl.openComp = some c ∧ q.place = .neither ∧
       q.ctl.gateDemand = 0 ∧ q.ctl.sentDemand = 0 ∧ q.ctl.floodRun = 0 ∧ q.ctl.airLostRun = 0 ∧
       q.ctl.massAtClose = p.chan.massG ∧ q.ctl.flowAtClose = p.chan.filtered ∧ q.ctl.tailAge = 0 ∧ q.ctl.settleRun = 0 ∧
       q.gatePending = true ∧ q.reportDue = true ∧ q.chan = p.chan ∧ q.queue = p.queue ∧ q.ring = p.ring)

/-- A good frame on a GATE, AIR, PROBE or BAY lane: a duplicate is only counted; an accepted frame counts its gap and,
with HEAD_FAULT, one error more; a usable value is stored in its range, and the role's consumers act on it (R140,
R147, R148, R156). -/
def Obligations.LatestValueFrames : Prop :=
  ∀ (s : State) (l : LaneId) (e : Lane) (seq : Byte) (hs : HeadStatus) (v : Nat), s.lane l = some e → e.role ≠ .force →
    let d := match e.lastSeq with | none => 1 | some last => (seq - last).toNat
    let gap := e.gap.bumpBy (d - 1)
    let stored := fun w => s.setLane l (some
      { e with lastSeq := some seq, gap := gap, age := 0, stale := false, latest := w })
    (e.lastSeq = some seq →
      takeLatest l e seq hs v s = s.setLane l (some { e with dup := e.dup.bump })) ∧
    (e.lastSeq ≠ some seq →
      takeLatest l e seq .headFault v s = s.setLane l (some { e with lastSeq := some seq, gap := gap.bump })) ∧
    (e.lastSeq ≠ some seq → hs ≠ .headFault →
      (e.role = .gate → takeLatest l e seq hs v s = stored (min 1000 v)) ∧
      (e.role = .air → takeLatest l e seq hs v s = examinePressure e.spout (stored (min 65535 v))) ∧
      (e.role = .probe → v = 0 → takeLatest l e seq hs v s = examineArmed e.spout (stored 0)) ∧
      (e.role = .probe → v ≠ 0 → takeLatest l e seq hs v s = probeCondition e.spout (stored 1)) ∧
      (e.role = .bay → v = 1 → takeLatest l e seq hs v s = examineArmed e.spout (stored 1)) ∧
      (e.role = .bay → v ≠ 1 → takeLatest l e seq hs v s = bayCondition e.spout (stored 0)))

/-! ### The P-port and the lines -/

/-- The course of a run of bytes at the P-port, up to the request handler: framing errors, frames that pass toward the
field, requests with a bad CRC and malformed requests (R160, R161, R162, R174). -/
def Obligations.PlantFramesRouted : Prop :=
  ∀ (s : State) (run : Run),
    let framed := 4 ≤ run.length ∧ run.length ≤ 40
    let isRequest := run.getD 0 0 = (0x30 : Byte)
    let mine := s.isAddressed (run.getD 1 0) (run.getD 3 0) = true
    let good := run.getLastD 0 = crcOf run.dropLast
    let malformed := 32 < byteAt run 4 ∨ run.length ≠ 6 + byteAt run 4
    (¬ framed → exec (.pPortFrame run) s = .next (serveLines { s with framingCount := s.framingCount.bump })) ∧
    (framed → ¬ isRequest → exec (.pPortFrame run) s = .next (serveLines (passToField run s))) ∧
    (framed → isRequest → 6 ≤ run.length → ¬ mine → exec (.pPortFrame run) s = .next (serveLines (passToField run s))) ∧
    (framed → isRequest → 6 ≤ run.length → mine → ¬ good →
      exec (.pPortFrame run) s = .next (serveLines { s with crcCount := s.crcCount.bump })) ∧
    (framed → isRequest → 6 ≤ run.length → mine → good → malformed →
      exec (.pPortFrame run) s = .next (serveLines { s with framingCount := s.framingCount.bump })) ∧
    (framed → isRequest → run.length < 6 → s.address ≠ 15 → byteAt run 1 = s.address →
      exec (.pPortFrame run) s = .next (serveLines { s with framingCount := s.framingCount.bump })) ∧
    (framed → isRequest → run.length < 6 → (s.address = 15 ∨ byteAt run 1 ≠ s.address) →
      exec (.pPortFrame run) s = .next (serveLines (passToField run s)))

/-- When a REQUEST is addressed to this NB4 (R174), and for every request row: one not addressed to it passes toward
the field unchanged (R162, R164); one that finds a restart pending, one that finds the response FIFO full, and one
whose frame is malformed leave everything but a counter and a mark as it stands (R162, R167, R184). -/
def Obligations.RequestsTurnedAway : Prop :=
  ((∀ (s : State) (address code : Byte),
     (s.address ≠ 15 → (s.isAddressed address code = true ↔ code ≠ 0x02 ∧ address.toNat = s.address)) ∧
     (s.address = 15 → (s.isAddressed address code = true ↔ code = 0x02 ∨ (code = 0x01 ∧ address = 15)))) ∧
   ∀ (c : Instr) (k : RequestKind) (h : ReqHeader) (ps : List Byte) (s : State),
     c.request? = some (k, h, ps) → ps.length ≤ 34 → s.isAddressed h.address k.code = false →
     exec c s = .next (serveLines (passToField (requestFrame h k.code ps) s))) ∧
  (∀ (c : Instr) (k : RequestKind) (h : ReqHeader) (ps : List Byte) (s : State), c.request? = some (k, h, ps) →
     (34 < ps.length → exec c s = .next (serveLines { s with framingCount := s.framingCount.bump })) ∧
     (s.isAddressed h.address k.code = true →
       (32 < ps.length → exec c s = .next (serveLines { s with framingCount := s.framingCount.bump })) ∧
       (ps.length ≤ 32 → s.restartPending = true → exec c s = .next (serveLines s)) ∧
       (ps.length ≤ 32 → s.restartPending = false → 4 ≤ s.respFifo.length →
         exec c s = .next (serveLines
           { s with
             requestOverrunCount := s.requestOverrunCount.bump
             overrunMark := s.overrunMark.occur 3 }))))

/-- The choice of the plant-bound line: a busy line chooses nothing; a free one takes the oldest pass-through frame,
then the oldest response, then the first pending alert by scope and code, then the next due report, counting round
from the spout after the last reported; with nothing to send it leaves the state as it stands (R165, R168, R169,
R172). -/
def Obligations.PlantLineChoice : Prop :=
  ∀ s : State,
    let quiet := s.plantLine = none ∧ s.plantFifo = [] ∧ s.respFifo = []
    let silentSpouts := ∀ i (k : AlertKind), (s.spout i).alerts[k.index].pending = false
    (∀ o, s.plantLine = some o → servePlant s = s) ∧
    (∀ run rest, s.plantLine = none → s.plantFifo = run :: rest →
      servePlant s = { s with plantFifo := rest, plantLine := some ⟨run, false⟩ }) ∧
    (∀ r rest, s.plantLine = none → s.plantFifo = [] → s.respFifo = r :: rest →
      servePlant s = { s with respFifo := rest, plantLine := some r }) ∧
    (∀ (i : SpoutId) (k : AlertKind), quiet → (s.spout i).alerts[k.index].pending = true →
      (∀ j < i, ∀ k : AlertKind, (s.spout j).alerts[k.index].pending = false) →
      (∀ k' : AlertKind, k'.index < k.index → (s.spout i).alerts[k'.index].pending = false) →
      let m := (s.spout i).alerts[k.index]
      servePlant s =
        { s.upd i fun p => { p with alerts := p.alerts.set k.index { m with pending := false, count := 0 } } with
          plantLine := some ⟨sealFrame
            [0x41, byte s.address, byte i.val, byte (k.index.val + 1), byte m.count, byte m.detail], false⟩ }) ∧
    (quiet → silentSpouts → s.silenceMark.pending = true →
      servePlant s =
        { s with
          silenceMark := { s.silenceMark with pending := false, count := 0 }
          plantLine := some ⟨sealFrame
            [0x41, byte s.address, 4, 10, byte s.silenceMark.count, byte s.silenceMark.detail], false⟩ }) ∧
    (quiet → silentSpouts → s.silenceMark.pending = false → s.overrunMark.pending = true →
      servePlant s =
        { s with
          overrunMark := { s.overrunMark with pending := false, count := 0 }
          plantLine := some ⟨sealFrame
            [0x41, byte s.address, 4, 11, byte s.overrunMark.count, byte s.overrunMark.detail], false⟩ }) ∧
    (quiet → silentSpouts → s.silenceMark.pending = false → s.overrunMark.pending = false →
      (∀ i, (s.spout i).reportDue = false) → servePlant s = s) ∧
    (∀ (i : SpoutId) (n : Nat), quiet → silentSpouts → s.silenceMark.pending = false → s.overrunMark.pending = false →
      n < 4 → i.val = (s.lastReported.val + 1 + n) % 4 → (s.spout i).reportDue = true →
      (∀ (j : SpoutId) (m : Nat), m < n → j.val = (s.lastReported.val + 1 + m) % 4 → (s.spout j).reportDue = false) →
      let p := s.spout i
      servePlant s =
        { s.upd i fun p => { p with reportDue := false } with
          lastReported := i
          plantLine := some ⟨sealFrame (
            [0x40, byte s.address, byte i.val, byte p.ctl.state.code] ++ be16 p.headTag ++ [byte p.openIndex] ++
            be16 p.chan.filtered ++ be24 (p.chan.massG / 1000) ++ be16 p.openTarget ++ be16 p.ctl.sentDemand ++
            [byte p.zero.owed,
             byte ((if p.zero.makeupOwed then 1 else 0) + (if p.zero.owed = 8 then 2 else 0) +
               (if s.silent then 4 else 0) + (if p.curve.exchangePending then 8 else 0)),
             byte (match p.ctl.heldReason with
               | none => 0
               | some .command => 1
               | some .bay => 2
               | some .air => 3
               | some .silence => 4)]), false⟩ })

/-- The choice of the field-bound line: the pending gate order of the lowest-numbered spout, built from what stands,
ahead of pass-through traffic; a pending flag of a spout without a GATE lane is cleared and nothing is sent (R106,
R107, R166, R172). The end of a transmission that is not the RESTART response's frees its line, and the arbiters
choose (R165, R166); on a free line the row only makes them choose (the model's choice, notes/assumptions/21.md). -/
def Obligations.FieldLineChoice : Prop :=
  (∀ s : State,
     (∀ o, s.fieldLine = some o → serveField s = s) ∧
     (s.fieldLine = none → (∀ i, (s.spout i).gatePending = false) →
       (s.fieldFifo = [] → serveField s = s) ∧
       ∀ run rest, s.fieldFifo = run :: rest →
         serveField s = { s with fieldFifo := rest, fieldLine := some ⟨run, false⟩ }) ∧
     (∀ i, s.fieldLine = none → (∀ j < i, (s.spout j).gatePending = false) → (s.spout i).gatePending = true →
       let p := s.spout i
       (s.laneOf i .gate = none → serveField s = serveField (s.upd i fun p => { p with gatePending := false })) ∧
       ∀ l, s.laneOf i .gate = some l →
         serveField s =
           { s.upd i fun p => { p with gatePending := false, orderSeq := p.orderSeq + 1 } with
             fieldLine := some ⟨sealFrame (
               [0x20, byte l.val] ++ be16 p.ctl.sentDemand ++ [if p.place = .holder then 1 else 0, p.orderSeq]),
               false⟩ })) ∧
  (∀ s : State,
     (∀ o, s.plantLine = some o → o.isRestart = false →
       exec .pPortLineFree s = .next (serveLines { s with plantLine := none })) ∧
     (s.plantLine = none → exec .pPortLineFree s = .next (serveLines s)) ∧
     (s.fieldLine = none → exec .fPortLineFree s = .next (serveLines s)) ∧
     exec .fPortLineFree s = .next (serveLines { s with fieldLine := none }))

/-- RESTART places its response, marked as the one whose end brings the reset, and sets restart pending; the reset
does not act yet. When that transmission ends, the configuration, zeros, banks, tau, ratio, parameters, lane entries
and address are kept, all work in progress is gone, every spout is PARKED, and gate orders and reports of every spout
are pending (R55, R184 and the RESTART columns). A power-on reset gives every field its power-on value; frames in
transmission are completed (R159; notes/assumptions/19.md). -/
def Obligations.RestartAndPowerOn : Prop :=
  (∀ (s : State) (h : ReqHeader), s.takes h 0x08 →
     let t := noteAccepted { s with restartPending := true }
     exec (.restart h []) s = .next (serveLines
       { t with respFifo := t.respFifo ++ [⟨sealFrame [0x31, byte t.address, h.number, 0x08, 0, 0], true⟩] }) ∧
     t.restartPending = true ∧
     ∀ ps, ps ≠ [] → ps.length ≤ 32 → s.answers (.restart h ps) h .restart s .badParam fun _ => []) ∧
  (∀ (s : State) (frame : Run), s.plantLine = some ⟨frame, true⟩ → ∃ t : State,
     exec .pPortLineFree s = .next (serveLines t) ∧
     (∀ i, let p := s.spout i
       t.spout i =
         { Spout.reset with
           curve := { p.curve with
             statusA := if p.curve.statusA = .pending then .standbyValid else p.curve.statusA
             statusB := if p.curve.statusB = .pending then .standbyValid else p.curve.statusB }
           zero := { ZeroTracker.reset with
             zero := p.zero.zero, cadence := p.zero.cadence, owed := p.zero.owed, makeupOwed := p.zero.makeupOwed }
           ctl := { Control.reset with tau := p.ctl.tau, ratio := p.ctl.ratio }
           par := p.par
           reportDue := true
           gatePending := true }) ∧
     (∀ l, t.lane l = (s.lane l).map fun e => Lane.mapped e.spout e.role e.forward) ∧
     t = { State.reset with
       spouts := t.spouts, lanes := t.lanes
       window := { s.window with isOpen := false }
       grantCount := s.grantCount, chain := s.chain, silenceK := s.silenceK, address := s.address
       resetCause := .restart, plantLine := none, fieldLine := s.fieldLine, pending := s.pending
       freeCount := s.freeCount }) ∧
  (∀ s : State, exec .powerOnReset s = .next
     { State.reset with
       plantLine := s.plantLine.map fun o => { o with isRestart := false }
       fieldLine := s.fieldLine.map fun o => { o with isRestart := false }
       pending := s.pending
       freeCount := s.freeCount })

/-! ### Requests of the spouts -/

/-- A spout request with other than one parameter byte is refused with BAD_PARAM, and one that names no spout with
BAD_SPOUT, its data fields 0 (R57, R175; the fields, notes/assumptions/8.md). Each is refused with REFUSED_STATE in
the states that its rule does not take it in. None changes anything but the silence timer and flag. -/
def Obligations.SpoutRequestsRefused : Prop :=
  (∀ (c : Instr) (k : RequestKind) (h : ReqHeader) (ps : List Byte) (s : State), c.request? = some (k, h, ps) →
     k ∈ [.proceed, .abort, .hold, .resume, .park, .unpark, .clear, .zeroNow] → s.takes h k.code → ps.length ≤ 32 →
     (ps.length ≠ 1 → s.answers c h k s .badParam fun _ => [0, 0]) ∧
     (∀ b : Byte, ps = [b] → 3 < b.toNat → s.answers c h k s .badSpout fun _ => [0, 0])) ∧
  (∀ (s : State) (h : ReqHeader) (i : SpoutId),
     let st := (s.spout i).ctl.state
     let ps : List Byte := [byte i.val]
     let refused : Instr → RequestKind → Prop := fun c k => s.takes h k.code →
       s.answers c h k s .refusedState (spoutReply i)
     (st ∉ [.ready, .zeroing] → refused (.proceed h ps) .proceed) ∧
     (st ∉ [.armed, .awaitAir, .coarse, .fine, .held, .tailing, .ready] → refused (.abort h ps) .abort) ∧
     (st ≠ .held → refused (.resume h ps) .resume) ∧
     (st ∉ [.idle, .ready, .zeroing] → refused (.park h ps) .park) ∧
     (st ≠ .parked → refused (.unpark h ps) .unpark) ∧
     (st ≠ .faulted → refused (.clear h ps) .clear) ∧
     (st ∉ [.idle, .ready] → refused (.zeroNow h ps) .zeroNow))

/-- PROCEED in READY opens the next compartment, or marks itself pending while make-up is owed; in ZEROING with origin
READY it abandons a NORMAL or ZERO_NOW step and opens the compartment, or marks itself pending during a MAKEUP step
(R44, R47, R60). -/
def Obligations.Proceed : Prop :=
  ∀ (s : State) (h : ReqHeader) (i : SpoutId), s.takes h 0x40 →
    let p := s.spout i
    let gives := fun u st => s.answers (.proceed h [byte i.val]) h .proceed u st (spoutReply i)
    let marked := s.upd i fun p => { p with zero := { p.zero with pendingProceed := true } }
    (p.ctl.state = .ready → p.zero.makeupOwed = false → gives (openCompartment i s) .ok) ∧
    (p.ctl.state = .ready → p.zero.makeupOwed = true → gives marked .ok) ∧
    (∀ st, p.ctl.state = .zeroing → p.zero.step = some st →
      (st.origin = .ready → st.kind ≠ .makeup → gives (openCompartment i s) .ok) ∧
      (st.origin = .ready → st.kind = .makeup → gives marked .ok) ∧
      (st.origin = .idle → gives s .refusedState))

/-- ABORT marks the head order aborted: in ARMED and AWAIT_AIR the result is recorded at once and the spout moves on,
in COARSE, FINE and HELD it enters TAILING, in TAILING the end reason becomes ABORT; in READY the head order is
retired (R68 to R71, R126). -/
def Obligations.Abort : Prop :=
  ∀ (s : State) (h : ReqHeader) (i : SpoutId) (o : Order) (rest : List Order), s.takes h 0x41 →
    (s.spout i).queue = o :: rest →
    let p := s.spout i
    let gives := fun u st => s.answers (.abort h [byte i.val]) h .abort u st (spoutReply i)
    let aborted := { p with queue := { o with aborted := true } :: rest }
    let released := { aborted with
      place := .neither
      gatePending := p.gatePending || p.place == AirPlace.holder
      ctl := { p.ctl with pressureWait := p.waitOnRelease } }
    ((p.ctl.state = .armed ∨ p.ctl.state = .awaitAir) →
      gives (s.released i ((released.recordResult .aborted).moveOn)) .ok) ∧
    ((p.ctl.state = .coarse ∨ p.ctl.state = .fine ∨ p.ctl.state = .held) →
      gives (enterTailing .abort i (s.upd i fun _ => aborted)) .ok) ∧
    (p.ctl.state = .tailing → p.ctl.endReason ≠ some .abort →
      gives (s.upd i fun _ => { aborted with ctl := { p.ctl with endReason := some .abort } }) .ok) ∧
    (p.ctl.state = .tailing → p.ctl.endReason = some .abort → gives s .okNoop) ∧
    (p.ctl.state = .ready →
      gives (s.upd i fun _ =>
        { p with
          reportDue := true
          queue := rest
          alerts := p.alerts.set 8 (p.alerts[8].occur 2)
          zero := { p.zero with pendingProceed := false }
          ctl := { p.ctl with state := if rest = [] then .idle else .ready } }.examineZeroing) .ok)

/-- HOLD is taken in ARMED, AWAIT_AIR, COARSE and FINE, where the spout enters HELD with held reason COMMAND and the
response carries OK and HELD; in every other state it is refused with REFUSED_STATE, and a held reason is kept. -/
def Obligations.Hold : Prop :=
  ∀ (s : State) (h : ReqHeader) (i : SpoutId), s.takes h 0x42 →
    let p := s.spout i
    let taken := p.ctl.state = .armed ∨ p.ctl.state = .awaitAir ∨ p.ctl.state = .coarse ∨ p.ctl.state = .fine
    (taken → s.answers (.hold h [byte i.val]) h .hold (enterHeld .command i s) .ok fun _ => [byte i.val, 9]) ∧
    (taken → ((enterHeld .command i s).spout i).ctl.state = .held ∧
      ((enterHeld .command i s).spout i).ctl.heldReason = some .command) ∧
    (¬ taken → s.answers (.hold h [byte i.val]) h .hold s .refusedState (spoutReply i))

/-- RESUME leaves HELD for AWAIT_AIR, where a probe or a bay that stands against the spout acts at once, the probe
first (the model's choice, notes/assumptions/13.md), and otherwise the spout asks for air. A spout held by its bay
waits for the bay (R66, R137, R152, R153). -/
def Obligations.Resume : Prop :=
  ∀ (s : State) (h : ReqHeader) (i : SpoutId), s.takes h 0x43 → (s.spout i).ctl.state = .held →
    let p := s.spout i
    let gives := fun u st => s.answers (.resume h [byte i.val]) h .resume u st (spoutReply i)
    let awaits := s.upd i fun p =>
      { p with reportDue := true, ctl := { p.ctl with state := .awaitAir, heldReason := none } }
    let goes := p.ctl.heldReason ≠ some .bay ∨ s.bayPermissive i = true
    (¬ goes → gives s .refusedState) ∧
    (goes → s.probeClear i = false → gives (probeCondition i awaits) .ok) ∧
    (goes → s.probeClear i = true → s.bayPermissive i = false → gives (bayCondition i awaits) .ok) ∧
    (goes → s.probeClear i = true → s.bayPermissive i = true →
      gives (grantDecision (awaits.upd i fun p => { p with place := .waiter })) .ok)

/-- UNPARK of a configured spout goes through IDLE at once to ZEROING with a MAKEUP step; PARK of a spout with an
empty queue discards its step and its retry wait (R45 to R47, R58, R59). CLEAR ends a fault and moves the spout on,
except while a stuck gate does not read shut (R76, R112); ZERO_NOW begins a full step in IDLE and READY (R50). -/
def Obligations.ParkUnparkClearZeroNow : Prop :=
  (∀ (s : State) (h : ReqHeader) (i : SpoutId),
     let p := s.spout i
     let unparks := fun u st => s.takes h 0x45 → s.answers (.unpark h [byte i.val]) h .unpark u st (spoutReply i)
     let parks := fun u st => s.takes h 0x44 → s.answers (.park h [byte i.val]) h .park u st (spoutReply i)
     let hasAll := p.curve.valid = true ∧ (s.laneOf i .force).isSome = true ∧ (s.laneOf i .gate).isSome = true ∧
       (s.laneOf i .air).isSome = true
     let parked := s.upd i fun p =>
       { p with
         reportDue := true
         zero := { p.zero with step := none, retryWait := none }
         ctl := { p.ctl with state := .parked, stuckRun := 0 } }
     (p.ctl.state = .parked → ¬ hasAll → unparks s .notConfigured) ∧
     (p.ctl.state = .parked → hasAll → p.zero.retryWait = none →
       unparks (s.upd i fun p =>
         { p with
           reportDue := true
           ctl := { p.ctl with state := .zeroing }
           zero := { p.zero with
             stepsDone := 0, partialSum := 0, makeupOwed := true, dueCount := 0
             step := some ⟨.makeup, .idle, 0, 0, 256, p.par.zeroBand⟩ } }) .ok) ∧
     (p.ctl.state = .idle → parks parked .ok) ∧
     (∀ st, p.ctl.state = .zeroing → p.zero.step = some st → st.origin = .idle → parks parked .ok) ∧
     (p.ctl.state = .ready → parks s .okNoop) ∧
     (∀ st, p.ctl.state = .zeroing → p.zero.step = some st → st.origin = .ready → parks s .okNoop)) ∧
  (∀ (s : State) (h : ReqHeader) (i : SpoutId),
     let p := s.spout i
     let clears := fun u st => s.takes h 0x46 → s.answers (.clear h [byte i.val]) h .clear u st (spoutReply i)
     let zeroes := fun u st => s.takes h 0x47 → s.answers (.zeroNow h [byte i.val]) h .zeroNow u st (spoutReply i)
     let shut := (s.gate i).1 ≤ 50 ∧ (s.gate i).2 = false
     let begun := fun (k : StepKind) (z : ZeroTracker) => s.upd i fun p =>
       { p with
         reportDue := true
         ctl := { p.ctl with state := .zeroing }
         zero := { z with
           retryWait := none
           step := some ⟨k, if p.ctl.state = .ready then .ready else .idle, 0, 0, 256, p.par.zeroBand⟩ } }
     (p.ctl.state = .faulted → (p.ctl.faultKind ≠ some .gateStuck ∨ shut) →
       clears (s.upd i fun p => { p with ctl := { p.ctl with faultKind := none, stuckRun := 0 } }.moveOn) .ok) ∧
     (p.ctl.state = .faulted → p.ctl.faultKind = some .gateStuck → ¬ shut → clears s .refusedState) ∧
     ((p.ctl.state = .idle ∨ p.ctl.state = .ready) →
       (p.zero.makeupOwed = true → zeroes (begun .makeup p.zero) .ok) ∧
       (p.zero.makeupOwed = false → zeroes (begun .zeroNow { p.zero with stepsDone := 0, partialSum := 0 }) .ok)))

/-! ### Requests of the device -/

/-- IDENT returns the identity, the address and the last reset cause; ASSIGN gives an unassigned NB4 an address from 0
to 14, from which it answers at once (R177, R178, R185). -/
def Obligations.IdentAndAssign : Prop :=
  ∀ (s : State) (h : ReqHeader) (ps : List Byte), ps.length ≤ 32 →
    let ident := fun _ : State => [0x0B, 0x17, 0x00, 0x44, 1, 4, byte s.address,
      match s.resetCause with | .powerOn => 0 | .restart => (1 : Byte)]
    (s.takes h 0x01 →
      (ps = [] → s.answers (.ident h ps) h .ident s .ok ident) ∧
      (ps ≠ [] → s.answers (.ident h ps) h .ident s .badParam ident)) ∧
    (s.takes h 0x02 → s.address = 15 ∧
      (∀ a : Byte, ps = [a] → a.toNat ≤ 14 →
        s.answers (.assign h ps) h .assign { s with address := a.toNat } .ok fun _ => [a]) ∧
      ((ps.length ≠ 1 ∨ 15 ≤ byteAt ps 0) → s.answers (.assign h ps) h .assign s .badParam fun _ => [15]))

/-- KEEPALIVE carries no parameters, is taken in every state and acts only as an accepted request; its response
carries k and whether the silent flag was set when it was taken. An accepted request restarts the timer, or stops it
under a setting of 7, and clears the silent flag; the spouts in ARMED whose other permissives hold then enter
AWAIT_AIR together, and one grant decision is made (R170). -/
def Obligations.KeepaliveAndSilentFlag : Prop :=
  (∀ (s : State) (h : ReqHeader), s.takes h 0x03 →
     exec (.keepalive h []) s = .next (serveLines
       ((noteAccepted s).replied h 0x03 .ok [byte s.silenceK, if s.silent then 1 else 0])) ∧
     (s.silent = true → (noteAccepted s).silent = false) ∧
     (noteAccepted s).timer = (if s.silenceK ≤ 6 then some 0 else none) ∧
     ∀ ps, ps ≠ [] → ps.length ≤ 32 → s.answers (.keepalive h ps) h .keepalive s .badParam
       fun _ => [byte s.silenceK, if s.silent then 1 else 0]) ∧
  (∀ s : State,
     let timer := if s.silenceK ≤ 6 then some 0 else none
     let goes := fun i => (s.spout i).ctl.state = .armed ∧ s.bayPermissive i = true ∧ s.probeClear i = true
     (s.silent = false → noteAccepted s = { s with timer := timer }) ∧
     (s.silent = true → (∀ i, ¬ goes i) → noteAccepted s = { s with timer := timer, silent := false }) ∧
     (s.silent = true → (∃ i, goes i) → ∃ u : State, noteAccepted s = grantDecision u ∧
       u.device = { s with timer := timer, silent := false }.device ∧ u.freeCount = s.freeCount ∧
       (∀ i, ¬ goes i → u.spout i = s.spout i) ∧
       ∀ i, goes i → u.spout i = { s.spout i with
         reportDue := true, place := .waiter, ctl := { (s.spout i).ctl with state := .awaitAir } }))

/-- The parameter table: each number, its parameter and its range (R180). SET_PARAM of the silence setting and of the
grant count, and the refusals that come before a value is stored; a raise of the grant count decides at once, a
lowering revokes nothing (R136, R170). The data of a refused one is the model's choice (notes/assumptions/8.md). -/
def Obligations.SetDeviceParam : Prop :=
  ((∀ row ∈ [(16, SpoutParam.span, 2048, 6144), (17, .lowCut, 0, 1000), (18, .fineOpening, 50, 600),
       (19, .minOpening, 0, 300), (20, .fineBand, 0, 5000), (21, .rampStep, 5, 1000), (22, .regStep, 1, 100),
       (23, .deadband, 0, 2000), (24, .tau, 0, 4000), (25, .gain, 0, 16), (27, .zeroMode, 0, 2),
       (28, .zeroInterval, 10, 600), (29, .zeroBand, 0, 65535), (30, .driftLimit, 0, 262143),
       (31, .airThreshold, 0, 65535), (32, .reportInterval, 40, 400), (33, .settleCount, 20, 400)],
     spoutParam row.1 = some row.2.1 ∧ ∀ v, row.2.1.limit v = max row.2.2.1 (min row.2.2.2 v)) ∧
   spoutParam 26 = some .floodLimit ∧ SpoutParam.floodLimit.limit 0 = 0 ∧
   (∀ v, 1 ≤ v → SpoutParam.floodLimit.limit v = max 1000 (min 20000 v)) ∧
   (∀ n, n < 16 ∨ 33 < n → spoutParam n = none) ∧
   deviceParam 1 = some .silence ∧ (∀ v, DeviceParam.silence.limit v = min 7 v) ∧
   deviceParam 2 = some .grantCount ∧ (∀ v, DeviceParam.grantCount.limit v = max 1 (min 4 v)) ∧
   (∀ n, n ≠ 1 → n ≠ 2 → deviceParam n = none)) ∧
  (∀ (s : State) (h : ReqHeader) (scope number : Byte) (v : BitVec 32) (ps : List Byte), s.takes h 0x04 →
     let full := [scope, number] ++ be32 v.toNat
     let gives := fun (ps : List Byte) (u : State) (st : Status) (bs : List Byte) =>
       s.answers (.setParam h ps) h .setParam u st fun _ => bs
     let stored := fun w : Nat => [4, number] ++ be32 w
     let status := fun w : Nat => if w = v.toNat then Status.ok else .okClamped
     (ps.length ≤ 32 → ps.length ≠ 6 → gives ps s .badParam [0, 0, 0, 0, 0, 0]) ∧
     (4 < scope.toNat → gives full s .badSpout [0, number, 0, 0, 0, 0]) ∧
     (∀ i : SpoutId, scope = byte i.val → spoutParam number.toNat = none →
       gives full s .badParam [scope, number, 0, 0, 0, 0]) ∧
     (scope = 4 → deviceParam number.toNat = none → gives full s .badParam [4, number, 0, 0, 0, 0]) ∧
     (scope = 4 → number = 1 →
       gives full { s with silenceK := min 7 v.toNat } (status (min 7 v.toNat)) (stored (min 7 v.toNat))) ∧
     (scope = 4 → number = 2 →
       let w := max 1 (min 4 v.toNat)
       (s.grantCount < w → gives full (grantDecision { s with grantCount := w }) (status w) (stored w)) ∧
       (w ≤ s.grantCount → gives full { s with grantCount := w } (status w) (stored w))))

/-- SET_PARAM of a spout parameter stores the value brought into range, with the effect that the table gives the act
of setting; span and low-flow cutoff are refused with a compartment open; every other parameter keeps its value (R104,
R108, R169, R180). A change of the zero mode restarts the due counter, discards a partial set with make-up owed, or
deferred with a compartment open, and abandons a NORMAL step without a retry wait (R49). -/
def Obligations.SetSpoutParam : Prop :=
  (∀ (s : State) (h : ReqHeader) (i : SpoutId) (number : Byte) (q : SpoutParam) (v : BitVec 32),
     s.takes h 0x04 → spoutParam number.toNat = some q →
     let p := s.spout i
     let ps := [byte i.val, number] ++ be32 v.toNat
     let w := q.limit v.toNat
     let fixed := (q = .span ∨ q = .lowCut) ∧ p.ctl.state.compartmentOpen = true
     let data := fun (x : Nat) (_ : State) => [byte i.val, number] ++ be32 x
     (fixed → s.answers (.setParam h ps) h .setParam s .refusedState (data (q.value p))) ∧
     (¬ fixed → s.answers (.setParam h ps) h .setParam (s.upd i (Spout.setParam q w))
       (if w = v.toNat then .ok else .okClamped) (data w)) ∧
     (q.value (p.setParam q w) = w) ∧ (∀ r, r ≠ q → r.value (p.setParam q w) = r.value p) ∧
     (q ≠ .minOpening → q ≠ .floodLimit → q ≠ .tau → q ≠ .zeroMode → q ≠ .zeroInterval → q ≠ .reportInterval →
       p.setParam q w = { p with par := (p.setParam q w).par }) ∧
     (q = .tau → p.setParam q w = { p with ctl := { p.ctl with tau := w } }) ∧
     (q = .floodLimit → p.setParam q w =
       { p with par := { p.par with floodLimit := w }, ctl := { p.ctl with floodRun := 0 } }) ∧
     (q = .zeroInterval → p.setParam q w =
       { p with par := { p.par with zeroInterval := w }, zero := { p.zero with dueCount := 0 } }) ∧
     (q = .reportInterval → p.setParam q w =
       { p with par := { p.par with reportInterval := w }, reportCount := 0 }) ∧
     (q = .minOpening → p.setParam q w =
       if (p.ctl.state = .coarse ∨ p.ctl.state = .fine) ∧ p.ctl.sentDemand < w then
         { p with
           par := { p.par with minOpening := w }, ctl := { p.ctl with sentDemand := w }, gatePending := true }
       else { p with par := { p.par with minOpening := w } })) ∧
  (∀ (p : Spout) (c : Cadence),
     let changed := fun z : ZeroTracker => { z with cadence := c, dueCount := 0 }
     let discarded := fun z : ZeroTracker =>
       if p.ctl.state.compartmentOpen then { changed z with stepsDone := 0, partialSum := 0, makeupDeferred := true }
       else { changed z with stepsDone := 0, partialSum := 0, makeupOwed := true }
     let z := if 1 ≤ p.zero.stepsDone then discarded p.zero else changed p.zero
     (p.setParam .zeroMode c.code = p.setCadence c) ∧
     (c = p.zero.cadence → p.setCadence c = p) ∧
     (c ≠ p.zero.cadence → (∀ st, p.zero.step = some st → st.kind ≠ .normal) →
       p.setCadence c = { p with zero := z }.examineZeroing) ∧
     (∀ st, c ≠ p.zero.cadence → p.zero.step = some st → st.kind = .normal →
       p.setCadence c =
         { p with
           reportDue := true
           ctl := { p.ctl with state := match st.origin with | .idle => .idle | .ready => .ready }
           zero := { z with step := none } }.examineZeroing))

/-- GET_PARAM carries a scope and a parameter number, is checked in the order of steps 1 to 3 of R180 with a parameter
length of 2, is taken in every state, returns the scope, the number and the value as it stands, the zero mode as its
code, and changes no parameter (R180, R182, R185). The data of a refused one is the model's choice
(notes/assumptions/8.md). -/
def Obligations.GetParam : Prop :=
  ∀ (s : State) (h : ReqHeader) (scope number : Byte) (ps : List Byte), s.takes h 0x05 →
    let gives := fun (ps : List Byte) (st : Status) (bs : List Byte) =>
      s.answers (.getParam h ps) h .getParam s st fun _ => bs
    (ps.length ≤ 32 → ps.length ≠ 2 → gives ps .badParam [0, 0, 0, 0, 0, 0]) ∧
    (4 < scope.toNat → gives [scope, number] .badSpout [0, number, 0, 0, 0, 0]) ∧
    (scope = 4 →
      (deviceParam number.toNat = none → gives [scope, number] .badParam [4, number, 0, 0, 0, 0]) ∧
      (number = 1 → gives [scope, number] .ok ([4, number] ++ be32 s.silenceK)) ∧
      (number = 2 → gives [scope, number] .ok ([4, number] ++ be32 s.grantCount))) ∧
    (∀ i : SpoutId, scope = byte i.val →
      (spoutParam number.toNat = none → gives [scope, number] .badParam [scope, number, 0, 0, 0, 0]) ∧
      (∀ q, spoutParam number.toNat = some q →
        gives [scope, number] .ok ([scope, number] ++ be32 (q.value (s.spout i)))) ∧
      SpoutParam.zeroMode.value (s.spout i) =
        (match (s.spout i).zero.cadence with | .z1 => 0 | .z2 => 1 | .z4 => 2))

/-- STATUS returns the spout's record from the state that stands when the response is placed (R79, R183, R185); a
request of an unknown code changes nothing and returns no data (R175). COUNTERS returns the port counters and the
counters of the lanes named, and clears what it returns; a range it cannot take clears nothing (R157, R163, R185). The
data of a refused one is the model's choice (notes/assumptions/8.md). -/
def Obligations.StatusCountersUnknown : Prop :=
  ((∀ (s : State) (h : ReqHeader) (ps : List Byte), s.takes h 0x06 → ps.length ≤ 32 →
     (∀ i : SpoutId, ps = [byte i.val] → s.answers (.status h ps) h .status s .ok fun t =>
       let p := t.spout i
       [byte i.val, byte p.ctl.state.code, byte ((p.ctl.heldReason.map HeldReason.code).getD 0),
         byte ((p.ctl.resumePhase.map Phase.code).getD 0), byte ((p.ctl.faultKind.map FaultKind.code).getD 0)] ++
       be24 p.zero.zero ++
       [byte p.zero.owed,
        byte ((if p.zero.makeupOwed then 1 else 0) + (if p.curve.exchangePending then 2 else 0) +
          (if t.silent then 4 else 0)),
        byte p.zero.stepsDone] ++
       be16 p.ctl.tau ++ be16 p.ctl.ratio ++ be16 p.ctl.sentDemand ++ be16 p.chan.filtered ++ be32 p.chan.massG ++
       be16 (match p.queue with | o :: _ => o.tag | [] => 0) ++
       [byte p.queue.length, match p.place with | .neither => 0 | .waiter => 1 | .holder => 2]) ∧
     (∀ b : Byte, ps = [b] → 3 < b.toNat →
       s.answers (.status h ps) h .status s .badSpout fun _ => List.replicate 27 0) ∧
     (ps.length ≠ 1 → s.answers (.status h ps) h .status s .badParam fun _ => List.replicate 27 0)) ∧
   ∀ (s : State) (h : ReqHeader) (code : Byte) (ps : List Byte), s.takes h code → requestKind code = none →
     ps.length ≤ 32 →
     exec (.unknownRequest h code ps) s =
       .next (serveLines ((noteAccepted s).replied h code .unknownRequest []))) ∧
  (∀ (s : State) (h : ReqHeader) (first count : Byte) (ps : List Byte), s.takes h 0x07 →
     let port : State → List Byte := fun s =>
       [s.crcCount.byte, s.framingCount.byte, s.overrunCount.byte, s.requestOverrunCount.byte]
     let f := first.toNat
     let n := count.toNat
     let laneAt : Nat → List Byte := fun k =>
       if hk : k < 32 then
         match s.lane ⟨k, hk⟩ with
         | none => [0, 0, 0, 0]
         | some e =>
           [byte (128 + (if e.stale then 64 else 0) + e.spout.val * 16 + e.role.code), e.crc.byte, e.gap.byte, e.dup.byte]
       else []
     (ps.length ≤ 32 → ps.length ≠ 2 → s.answers (.counters h ps) h .counters s .badParam fun _ => port s) ∧
     ((31 < f ∨ n = 0 ∨ 6 < n ∨ 32 < f + n) →
       s.answers (.counters h [first, count]) h .counters s .badParam fun _ => port s) ∧
     (1 ≤ n → n ≤ 6 → f + n ≤ 32 → ∃ u : State,
       s.answers (.counters h [first, count]) h .counters u .ok
         (fun _ => port s ++ (List.range n).flatMap fun k => laneAt (f + k)) ∧
       (∀ l : LaneId, u.lane l =
         if f ≤ l.val ∧ l.val < f + n then
           (s.lane l).map fun e => { e with crc := ⟨0, false⟩, gap := ⟨0, false⟩, dup := ⟨0, false⟩ }
         else s.lane l) ∧
       u = { s with
         lanes := u.lanes
         crcCount := ⟨0, false⟩, framingCount := ⟨0, false⟩, overrunCount := ⟨0, false⟩
         requestOverrunCount := ⟨0, false⟩ }))

/-! ### Requests of the curve store -/

/-- OPEN_WINDOW opens the window on a bank and a range of points (R25, R26, R28, R185). READ_POINTS and READ_MORE
return up to six points from the first point, or from the cursor, and move the cursor past them; they change nothing
else (R29). The data of a refused OPEN_WINDOW is the model's choice (notes/assumptions/8.md). -/
def Obligations.CurveWindow : Prop :=
  (∀ (s : State) (h : ReqHeader) (spout bank first last : Byte) (ps : List Byte), s.takes h 0x10 →
     let req := [spout, bank, first, last]
     let gives := fun (u : State) (st : Status) (bs : List Byte) =>
       s.answers (.openWindow h req) h .openWindow u st fun _ => bs
     let shows : SpoutId → Bank → List Byte := fun i b =>
       let c := (s.spout i).curve
       [byte (c.status b).code, byte c.selected.code, if c.valid then 1 else 0,
         if b = c.selected ∨ c.status b = .pending then 0 else 1]
     (ps.length ≤ 32 → ps.length ≠ 4 →
       s.answers (.openWindow h ps) h .openWindow s .badParam fun _ => [0, 0, 0, 0]) ∧
     (3 < spout.toNat → gives s .badSpout [0, 0, 0, 0]) ∧
     (∀ i : SpoutId, spout = byte i.val →
       (1 < bank.toNat →
         gives s .badParam [0, byte (s.spout i).curve.selected.code, if (s.spout i).curve.valid then 1 else 0, 0]) ∧
       (∀ b : Bank, bank = byte b.code →
         ((16 < last.toNat ∨ last.toNat < first.toNat) → gives s .badParam (shows i b)) ∧
         (first.toNat ≤ last.toNat → last.toNat ≤ 16 →
           gives { s with window := ⟨true, i, b, first.toNat, last.toNat, first.toNat⟩ } .ok (shows i b))))) ∧
  (∀ (s : State) (h : ReqHeader) (ps : List Byte), ps.length ≤ 32 →
     let w := s.window
     let v := (s.spout w.spout).curve.points w.bank
     let gives := fun (u : State) (st : Status) (bs : List Byte) (from_ : Nat) =>
       (from_ = w.first → s.takes h 0x13 → s.answers (.readPoints h ps) h .readPoints u st fun _ => bs) ∧
       (from_ = w.cursor → s.takes h 0x14 → s.answers (.readMore h ps) h .readMore u st fun _ => bs)
     ∀ from_ : Nat,
       (ps ≠ [] → gives s .badParam [0] from_) ∧
       (ps = [] → w.isOpen = false → gives s .windowClosed [0] from_) ∧
       (ps = [] → w.isOpen = true →
         let n := min 6 (w.last + 1 - from_)
         gives { s with window := { w with cursor := from_ + n } } .ok
           (byte n :: (List.range n).flatMap fun k => be16 (v.getD (from_ + k) 0)) from_))

/-- WRITE_POINTS stores from the window's first point and WRITE_MORE from the cursor; each value in turn is stored,
limited to 20,000, until the cursor has passed the last point (R27, R28). -/
def Obligations.WriteWindow : Prop :=
  ∀ (s : State) (h : ReqHeader) (ps : List Byte), ps.length ≤ 32 →
    let w := s.window
    let c := (s.spout w.spout).curve
    let counted := ps.length % 2 = 0 ∧ 2 ≤ ps.length ∧ ps.length ≤ 12
    let writable := w.bank ≠ c.selected ∧ c.status w.bank ≠ .pending
    let gives := fun (u : State) (st : Status) (n : Nat) (from_ : Nat) =>
      (from_ = w.first → s.takes h 0x11 → s.answers (.writePoints h ps) h .writePoints u st fun _ => [byte n]) ∧
      (from_ = w.cursor → s.takes h 0x12 → s.answers (.writeMore h ps) h .writeMore u st fun _ => [byte n])
    ∀ from_ : Nat,
      (w.isOpen = false → gives s .windowClosed 0 from_) ∧
      (w.isOpen = true → ¬ counted → gives s .badParam 0 from_) ∧
      (w.isOpen = true → counted → ¬ writable → gives s .bankActive 0 from_) ∧
      (w.isOpen = true → counted → writable → w.last ≤ 16 →
        let n := min (ps.length / 2) (w.last + 1 - from_)
        let value := fun k => word16At ps (2 * k)
        ∃ u : State, gives u (if ∃ k < n, 20000 < value k then .okClamped else .ok) n from_ ∧
          u.window = { w with cursor := from_ + n } ∧
          (n = 0 → u = { s with window := u.window }) ∧
          (n ≠ 0 →
            (∀ k, ((u.spout w.spout).curve.points w.bank).getD k 0 =
              if from_ ≤ k ∧ k < from_ + n then min 20000 (value (k - from_)) else (c.points w.bank).getD k 0) ∧
            (let written := c.setPoints w.bank ((u.spout w.spout).curve.points w.bank)
             u = { s.upd w.spout fun p => { p with curve := written.setStatus w.bank .standbyUnchecked } with
                window := u.window })))

/-- ACTIVATE tests the standby bank, unless an exchange is pending already, and exchanges the banks at once or defers
the exchange to the end of the open compartment; it closes the window on the spout it names (R24, R26, R30, R31, R32,
R35). One with a wrong length, and one that names no spout, change nothing and leave the window open (R26, R30, R175).
The data of those (notes/assumptions/8.md) and a failing point of 0 beside OK (notes/assumptions/28.md) are the
model's choice. -/
def Obligations.Activate : Prop :=
  (∀ (s : State) (h : ReqHeader) (ps : List Byte), s.takes h 0x15 →
     let refused := fun st => s.answers (.activate h ps) h .activate s st fun _ => [0, 0, 0]
     (ps.length ≤ 32 → ps.length ≠ 1 → refused .badParam) ∧
     (∀ b : Byte, ps = [b] → 3 < b.toNat → refused .badSpout)) ∧
  (∀ (s : State) (h : ReqHeader) (i : SpoutId), s.takes h 0x15 →
     let c := (s.spout i).curve
     let isOpen := (s.spout i).ctl.state.compartmentOpen
     let t := if s.window.spout = i then { s with window := { s.window with isOpen := false } } else s
     let gives := fun (u : State) (st : Status) (mark failing : Nat) (sel : Bank) =>
       s.answers (.activate h [byte i.val]) h .activate u st fun _ => [byte mark, byte failing, byte sel.code]
     let f := fun k => (c.points c.standby).getD k 0
     let rises := ∀ k, 1 ≤ k → k ≤ 16 → f (k - 1) ≤ f k
     let old : BankStatus := if c.valid then .standbyValid else .standbyUnchecked
     (c.status c.standby = .pending → gives t .ok 3 0 c.selected) ∧
     (c.status c.standby ≠ .pending →
       (∀ k, 1 ≤ k → k ≤ 16 → f k < f (k - 1) → (∀ j, 1 ≤ j → j < k → f (j - 1) ≤ f j) →
         gives (t.upd i fun p => { p with curve := c.setStatus c.standby .standbyUnchecked }) .curveInvalid 0 k c.selected) ∧
       (rises → f 16 = 0 →
         gives (t.upd i fun p => { p with curve := c.setStatus c.standby .standbyUnchecked }) .curveInvalid 0 16 c.selected) ∧
       (rises → 0 < f 16 → isOpen = true →
         gives (t.upd i fun p => { p with curve := c.setStatus c.standby .pending }) .ok 2 0 c.selected) ∧
       (rises → 0 < f 16 → isOpen = false → c.selected = .a →
         gives (t.upd i fun p =>
           { p with
             curve := { c with statusA := old, statusB := .active, selected := .b, valid := true }
             alerts := p.alerts.set 4 (p.alerts[4].occur 1) }) .ok 1 0 .b) ∧
       (rises → 0 < f 16 → isOpen = false → c.selected = .b →
         gives (t.upd i fun p =>
           { p with
             curve := { c with statusA := .active, statusB := old, selected := .a, valid := true }
             alerts := p.alerts.set 4 (p.alerts[4].occur 0) }) .ok 1 0 .a)))

/-! ### Requests of the lane map, the arbiter and the order store -/

/-- MAP_LANE and UNMAP_LANE with their checks in order; a FORCE mapping starts the channel again and makes make-up
owed (R1, R47, R145, R149, R150; the fields of a refused one, notes/assumptions/8.md). The unmapping of a GATE lane
clears the spout's pending gate order without sending (R150). -/
def Obligations.MapAndUnmapLane : Prop :=
  ∀ (s : State) (h : ReqHeader) (lane spout role flag : Byte) (ps : List Byte),
    let named : Option LaneId := laneOfField lane.toNat
    let entry : Option Lane → Byte := fun e => match e with
      | none => 0
      | some e => byte (128 + (if e.forward then 64 else 0) + e.spout.val * 16 + e.role.code)
    let echo : Option LaneId → List Byte := fun l => match l with
      | none => [0, 0]
      | some l => [byte l.val, entry (s.lane l)]
    let maps := fun (ps : List Byte) (u : State) (st : Status) (bs : List Byte) => s.takes h 0x20 →
      s.answers (.mapLane h ps) h .mapLane u st fun _ => bs
    let unmaps := fun (ps : List Byte) (u : State) (st : Status) (bs : List Byte) => s.takes h 0x21 →
      s.answers (.unmapLane h ps) h .unmapLane u st fun _ => bs
    let req := [lane, spout, role, flag]
    (ps.length ≤ 32 → ps.length ≠ 4 → maps ps s .badParam [0, 0]) ∧
    (3 < spout.toNat → maps req s .badSpout (echo named)) ∧
    (∀ i : SpoutId, spout = byte i.val →
      ((named = none ∨ 4 < role.toNat ∨ 1 < flag.toNat) → maps req s .badParam (echo named)) ∧
      (∀ (l : LaneId) (r : Role), named = some l → role = byte r.code → flag.toNat ≤ 1 →
        ((s.spout i).ctl.state ≠ .parked → maps req s .refusedState (echo named)) ∧
        ((s.spout i).ctl.state = .parked → (s.lane l).isSome = true → maps req s .laneInUse (echo named)) ∧
        ((s.spout i).ctl.state = .parked → s.lane l = none → (s.laneOf i r).isSome = true →
          maps req s .roleFilled (echo named)) ∧
        ((s.spout i).ctl.state = .parked → s.lane l = none → s.laneOf i r = none →
          let e : Lane := ⟨i, r, flag = 1, ⟨0, false⟩, ⟨0, false⟩, ⟨0, false⟩, 0, false, none, 0⟩
          let u := s.setLane l (some e)
          (r ≠ .force → maps req u .ok [lane, entry (some e)]) ∧
          (r = .force → maps req (u.upd i fun p =>
            { p with
              chan := { p.chan with
                lastSeq := none, missingRun := 0, lastGood := 0, window := List.replicate 8 0, filtered := 0
                overrange := false }
              zero := { p.zero with makeupOwed := true } }) .ok [lane, entry (some e)])))) ∧
    (ps.length ≤ 32 → ps.length ≠ 1 → unmaps ps s .badParam [0, 0]) ∧
    (named = none → unmaps [lane] s .badParam [0, 0]) ∧
    (∀ l, named = some l →
      (s.lane l = none → unmaps [lane] s .okNoop [lane, 0]) ∧
      (∀ e, s.lane l = some e → (s.spout e.spout).ctl.state ≠ .parked →
        unmaps [lane] s .refusedState [lane, entry (some e)]) ∧
      (∀ e, s.lane l = some e → (s.spout e.spout).ctl.state = .parked →
        (e.role ≠ .gate → unmaps [lane] (s.setLane l none) .ok [lane, 0]) ∧
        (e.role = .gate →
          unmaps [lane] ((s.setLane l none).upd e.spout fun p => { p with gatePending := false }) .ok [lane, 0])))

/-- SET_CHAIN is taken in every state when its four numbers are 0, 1, 2 and 3, each once; they become the chain order,
which moves no grant. Any other SET_CHAIN is refused with BAD_PARAM. The response carries the chain order in force. -/
def Obligations.SetChain : Prop :=
  ∀ (s : State) (h : ReqHeader) (ps : List Byte), s.takes h 0x22 → ps.length ≤ 32 →
    let bytes : List SpoutId → List Byte := fun c => c.map fun i => byte i.val
    (∀ c : List SpoutId, c.Perm [0, 1, 2, 3] → ps = bytes c →
      s.answers (.setChain h ps) h .setChain { s with chain := c } .ok fun _ => ps) ∧
    ((∀ c : List SpoutId, c.Perm [0, 1, 2, 3] → ps ≠ bytes c) →
      s.answers (.setChain h ps) h .setChain s .badParam fun _ => bytes s.chain)

/-- The checks of ENQUEUE, in their order, the first of them the length that reaches the count (R118, R122, R175,
R185; the data of one too short, notes/assumptions/8.md). A taken ENQUEUE stores the order, each value brought into
range, at the tail of the queue (R116, R117, R119); a new head order takes a parked, idle or zeroing spout on (R44,
R58, R120, R121). That one which finds a MAKEUP step does not set report-due is the model's reading
(notes/assumptions/29.md). -/
def Obligations.Enqueue : Prop :=
  (∀ (s : State) (h : ReqHeader) (ps : List Byte), s.takes h 0x30 → ps.length ≤ 32 →
     let tag := word16At ps 1
     let count := byteAt ps 3
     let refused := fun (st : Status) (data : State → List Byte) =>
       s.answers (.enqueue h ps) h .enqueue s st data
     let shortTag := if ps.length = 3 then tag else 0
     (ps.length < 4 → (ps = [] ∨ 3 < byteAt ps 0) →
       refused .badParam fun t => be16 shortTag ++ [0, 0, byte t.poolFree]) ∧
     (∀ i : SpoutId, 1 ≤ ps.length → ps.length < 4 → byteAt ps 0 = i.val → refused .badParam (orderReply shortTag i)) ∧
     (4 ≤ ps.length → 3 < byteAt ps 0 → refused .badSpout fun _ => be16 tag ++ [0, 0, 0]) ∧
     (∀ i : SpoutId, 4 ≤ ps.length → byteAt ps 0 = i.val →
       let wellMade := 1 ≤ count ∧ count ≤ 6 ∧ tag ≠ 0 ∧ ps.length = 8 + 2 * count
       let unconfigured := (s.spout i).ctl.state = .parked ∧
         ¬ ((s.spout i).curve.valid = true ∧ (s.laneOf i .force).isSome = true ∧ (s.laneOf i .gate).isSome = true ∧
           (s.laneOf i .air).isSome = true)
       let inUse := ∃ o ∈ (s.spout i).queue, o.tag = tag
       (¬ wellMade → refused .badParam (orderReply tag i)) ∧
       (wellMade → unconfigured → refused .notConfigured (orderReply tag i)) ∧
       (wellMade → ¬ unconfigured → inUse → refused .tagInUse (orderReply tag i)) ∧
       (wellMade → ¬ unconfigured → ¬ inUse → 8 ≤ (s.spout i).queue.length → refused .queueFull (orderReply tag i)) ∧
       (wellMade → ¬ unconfigured → ¬ inUse → (s.spout i).queue.length < 8 → 16 ≤ s.heldOrders →
         refused .poolFull (orderReply tag i)))) ∧
  (∀ (s : State) (h : ReqHeader) (i : SpoutId) (tag cap limit : BitVec 16) (targets : List (BitVec 16)),
     s.takes h 0x30 → 1 ≤ targets.length → targets.length ≤ 6 → tag ≠ 0 →
     let ps := [byte i.val] ++ be16 tag.toNat ++ [byte targets.length] ++
       (targets.flatMap fun t => be16 t.toNat) ++ be16 cap.toNat ++ be16 limit.toNat
     let o : Order :=
       { tag := tag.toNat
         targets := targets.map fun t => max 100 (min 60000 t.toNat)
         cap := max 100 (min 1000 cap.toNat)
         flowLimit := if limit = 0 then none else some (max 500 (min 20000 limit.toNat))
         nextIndex := 1, aborted := false }
     let moved := (∃ t ∈ targets, t.toNat < 100 ∨ 60000 < t.toNat) ∨ cap.toNat < 100 ∨ 1000 < cap.toNat ∨
       (limit ≠ 0 ∧ limit.toNat < 500) ∨ 20000 < limit.toNat
     let p := s.spout i
     let joined := { p with queue := p.queue ++ [o] }
     let gives := fun q : Spout => (moved → s.answers (.enqueue h ps) h .enqueue (s.upd i fun _ => q) .okClamped
         (orderReply tag.toNat i)) ∧
       (¬ moved → s.answers (.enqueue h ps) h .enqueue (s.upd i fun _ => q) .ok (orderReply tag.toNat i))
     let ready := { joined with reportDue := true, ctl := { p.ctl with state := .ready } }
     (∀ o ∈ p.queue, o.tag ≠ tag.toNat) → p.queue.length < 8 → s.heldOrders < 16 →
       (p.queue ≠ [] → p.ctl.state ≠ .parked → gives joined) ∧
       (p.queue = [] → p.ctl.state = .parked → s.configured i = true → p.zero.retryWait = none →
         gives { ready with
           ctl := { p.ctl with state := .zeroing }
           zero := { p.zero with
             stepsDone := 0, partialSum := 0, makeupOwed := true, dueCount := 0
             step := some ⟨.makeup, .ready, 0, 0, 256, p.par.zeroBand⟩ } }) ∧
       (p.queue = [] → p.ctl.state = .idle → gives ready.examineZeroing) ∧
       (p.queue = [] → p.ctl.state = .faulted → gives { joined with reportDue := true }) ∧
       (∀ st, p.queue = [] → p.ctl.state = .zeroing → p.zero.step = some st → st.kind = .makeup →
         gives { joined with zero := { p.zero with step := some { st with origin := .ready } } }) ∧
       (∀ st, p.queue = [] → p.ctl.state = .zeroing → p.zero.step = some st → st.kind ≠ .makeup →
         gives { ready with zero := { p.zero with step := none } }.examineZeroing))

/-- CANCEL removes the order that bears the tag and raises ORDER_RETIRED with detail 3; of the head order it is taken
in READY, ZEROING and FAULTED (R45, R117, R122, R125, R126, R128, R129). RESULTS returns the header and at most two
records, newest first from the position given (R130, R132, R185). The data of a refused one is the model's choice
(notes/assumptions/8.md). -/
def Obligations.CancelAndResults : Prop :=
  (∀ (s : State) (h : ReqHeader) (spout : Byte) (tag : BitVec 16) (ps : List Byte), s.takes h 0x31 →
     let req := [spout] ++ be16 tag.toNat
     let gives := fun (u : State) (st : Status) (data : State → List Byte) =>
       s.answers (.cancel h req) h .cancel u st data
     (ps.length ≤ 32 → ps.length ≠ 3 →
       s.answers (.cancel h ps) h .cancel s .badParam fun t => [0, 0, 0, 0, byte t.poolFree]) ∧
     (3 < spout.toNat → gives s .badSpout fun _ => be16 tag.toNat ++ [0, 0, 0]) ∧
     (∀ i : SpoutId, spout = byte i.val →
       let p := s.spout i
       let retired := { p with alerts := p.alerts.set 8 (p.alerts[8].occur 3) }
       ((∀ o ∈ p.queue, o.tag ≠ tag.toNat) → gives s .noSuchTag (orderReply tag.toNat i)) ∧
       (∀ o rest, p.queue = o :: rest → (∀ r ∈ rest, r.tag ≠ o.tag) →
         (o.tag ≠ tag.toNat → (∃ r ∈ rest, r.tag = tag.toNat) →
           gives (s.upd i fun _ => { retired with queue := o :: rest.filter fun r => r.tag != tag.toNat }) .ok
             (orderReply tag.toNat i)) ∧
         (o.tag = tag.toNat →
           (p.ctl.state = .ready →
             gives (s.upd i fun _ =>
               { retired with
                 reportDue := true
                 queue := rest
                 zero := { p.zero with pendingProceed := false }
                 ctl := { p.ctl with state := if rest = [] then .idle else .ready } }.examineZeroing) .ok
               (orderReply tag.toNat i)) ∧
           (p.ctl.state = .zeroing →
             gives (s.upd i fun _ =>
               { retired with
                 reportDue := true
                 queue := rest
                 zero := { p.zero with
                   pendingProceed := false
                   step := p.zero.step.map fun st =>
                     { st with origin := if rest = [] then .idle else .ready } } }) .ok
               (orderReply tag.toNat i)) ∧
           (p.ctl.state = .faulted →
             gives (s.upd i fun _ => { retired with reportDue := true, queue := rest }) .ok
               (orderReply tag.toNat i)) ∧
           (p.ctl.state.compartmentOpen = true → gives s .refusedState (orderReply tag.toNat i)))))) ∧
  (∀ (s : State) (h : ReqHeader) (spout first count : Byte) (ps : List Byte), s.takes h 0x32 →
     let gives := fun (ps : List Byte) (st : Status) (bs : List Byte) =>
       s.answers (.results h ps) h .results s st fun _ => bs
     (ps.length ≤ 32 → ps.length ≠ 3 → gives ps .badParam [0, 0]) ∧
     (3 < spout.toNat → gives [spout, first, count] .badSpout [0, 0]) ∧
     (∀ i : SpoutId, spout = byte i.val →
       let ring := (s.spout i).ring
       let newest : Byte := match ring.getLast? with | none => 0 | some r => r.number
       let left := min count.toNat (ring.length - first.toNat)
       let record : Result → List Byte := fun r =>
         be16 r.tag ++
         [byte (r.endReason.code * 16 + r.index),
          byte ((if r.zeroStale then 1 else 0) + (if r.filled then 2 else 0) + (if r.tailTimeout then 4 else 0) +
            (if r.unsettled then 8 else 0) + (if r.saturated then 16 else 0) + (if r.switchedAtEnd then 32 else 0))] ++
         be16 r.targetKg ++ be32 r.finalG ++ be16 r.tau ++ be24 (min 16777215 r.duration)
       ((7 < first.toNat ∨ count.toNat = 0 ∨ 8 < count.toNat) →
         gives [spout, first, count] .badParam [byte (ring.length * 16), newest]) ∧
       (first.toNat ≤ 7 → 1 ≤ count.toNat → count.toNat ≤ 8 →
         gives [spout, first, count] .ok
           ([byte (ring.length * 16 + (left - 2)), newest] ++
             ((ring.reverse.drop first.toNat).take (min 2 count.toNat)).flatMap record))))
end

