-- ==== Sys2Proof/Laws/State.lean ====
section
/-! SUPPORT. One lemma for each field under each update of the state: `PerSpout.set`, `State.upd`, `State.setLane`, and the
changes of a spout's record that the rest of the model is built from. -/

set_option Elab.async false

namespace Sys2Proof

namespace PerSpout

variable {α β : Type}

@[simp] theorem get_set_same (p : PerSpout α) (i : SpoutId) (x : α) : (p.set i x).get i = x := by
  match i with
  | 0 => rfl
  | 1 => rfl
  | 2 => rfl
  | 3 => rfl

theorem get_set_ne (p : PerSpout α) {i j : SpoutId} (h : j ≠ i) (x : α) : (p.set i x).get j = p.get j := by
  match i, j with
  | 0, 0 | 1, 1 | 2, 2 | 3, 3 => exact absurd rfl h
  | 0, 1 | 0, 2 | 0, 3 | 1, 0 | 1, 2 | 1, 3 | 2, 0 | 2, 1 | 2, 3 | 3, 0 | 3, 1 | 3, 2 => rfl

@[simp] theorem get_all (x : α) (i : SpoutId) : (PerSpout.all x).get i = x := by
  match i with
  | 0 => rfl
  | 1 => rfl
  | 2 => rfl
  | 3 => rfl

@[simp] theorem get_map (f : α → β) (p : PerSpout α) (i : SpoutId) : (p.map f).get i = f (p.get i) := by
  match i with
  | 0 => rfl
  | 1 => rfl
  | 2 => rfl
  | 3 => rfl

theorem ext_get {p q : PerSpout α} (h : ∀ i, p.get i = q.get i) : p = q := by
  cases p; cases q
  have h0 := h 0; have h1 := h 1; have h2 := h 2; have h3 := h 3
  simp only [get] at h0 h1 h2 h3
  simp [h0, h1, h2, h3]

end PerSpout

namespace Machine

variable (s : State) (i j : SpoutId) (l m : LaneId) (f g : Spout → Spout)

/-! ### `State.upd` -/

@[simp] theorem spout_upd_same : (s.upd i f).spout i = f (s.spout i) := by simp [State.upd, State.spout]

theorem spout_upd_ne {i j : SpoutId} (h : j ≠ i) : (s.upd i f).spout j = s.spout j :=
  PerSpout.get_set_ne _ h _

theorem spout_upd : (s.upd i f).spout j = if j = i then f (s.spout i) else s.spout j := by
  split
  · next h => subst h; simp
  · next h => exact spout_upd_ne s f h

@[simp] theorem upd_lanes : (s.upd i f).lanes = s.lanes := rfl
@[simp] theorem upd_lane : (s.upd i f).lane l = s.lane l := rfl
@[simp] theorem upd_laneOf (r : Role) : (s.upd i f).laneOf j r = s.laneOf j r := rfl
@[simp] theorem upd_roleLane (r : Role) : (s.upd i f).roleLane j r = s.roleLane j r := rfl
@[simp] theorem upd_gate : (s.upd i f).gate j = s.gate j := rfl
@[simp] theorem upd_bayPermissive : (s.upd i f).bayPermissive j = s.bayPermissive j := rfl
@[simp] theorem upd_probeClear : (s.upd i f).probeClear j = s.probeClear j := rfl
@[simp] theorem upd_permitted : (s.upd i f).permitted j = s.permitted j := rfl
@[simp] theorem upd_window : (s.upd i f).window = s.window := rfl
@[simp] theorem upd_grantCount : (s.upd i f).grantCount = s.grantCount := rfl
@[simp] theorem upd_chain : (s.upd i f).chain = s.chain := rfl
@[simp] theorem upd_plantFifo : (s.upd i f).plantFifo = s.plantFifo := rfl
@[simp] theorem upd_respFifo : (s.upd i f).respFifo = s.respFifo := rfl
@[simp] theorem upd_fieldFifo : (s.upd i f).fieldFifo = s.fieldFifo := rfl
@[simp] theorem upd_silenceMark : (s.upd i f).silenceMark = s.silenceMark := rfl
@[simp] theorem upd_overrunMark : (s.upd i f).overrunMark = s.overrunMark := rfl
@[simp] theorem upd_lastReported : (s.upd i f).lastReported = s.lastReported := rfl
@[simp] theorem upd_silenceK : (s.upd i f).silenceK = s.silenceK := rfl
@[simp] theorem upd_timer : (s.upd i f).timer = s.timer := rfl
@[simp] theorem upd_silent : (s.upd i f).silent = s.silent := rfl
@[simp] theorem upd_address : (s.upd i f).address = s.address := rfl
@[simp] theorem upd_restartPending : (s.upd i f).restartPending = s.restartPending := rfl
@[simp] theorem upd_plantLine : (s.upd i f).plantLine = s.plantLine := rfl
@[simp] theorem upd_fieldLine : (s.upd i f).fieldLine = s.fieldLine := rfl
@[simp] theorem upd_pending : (s.upd i f).pending = s.pending := rfl
@[simp] theorem upd_freeCount : (s.upd i f).freeCount = s.freeCount := rfl
@[simp] theorem upd_device : (s.upd i f).device = s.device := rfl

@[simp] theorem upd_upd : (s.upd i f).upd i g = s.upd i fun p => g (f p) := by
  match i with
  | 0 => rfl
  | 1 => rfl
  | 2 => rfl
  | 3 => rfl

/-- A state is its device part, its spouts and its count of free values. -/
theorem state_ext {s t : State} (hd : s.device = t.device) (hs : ∀ i, s.spout i = t.spout i)
    (hf : s.freeCount = t.freeCount) : s = t := by
  have hsp : s.spouts = t.spouts := PerSpout.ext_get hs
  cases s; cases t
  simp_all [State.device]

/-! ### `State.setLane` and `State.updLane` -/

@[simp] theorem lane_setLane_same (e : Option Lane) : (s.setLane l e).lane l = e := by
  simp [State.setLane, State.lane]

theorem lane_setLane_ne {l m : LaneId} (h : m ≠ l) (e : Option Lane) : (s.setLane l e).lane m = s.lane m := by
  have h' : l.val ≠ m.val := fun e => h (Fin.ext e.symm)
  simp [State.setLane, State.lane, h']

@[simp] theorem lane_updLane_same (k : Lane → Lane) : (s.updLane l k).lane l = (s.lane l).map k := by
  simp [State.updLane]

theorem lane_updLane_ne {l m : LaneId} (h : m ≠ l) (k : Lane → Lane) : (s.updLane l k).lane m = s.lane m :=
  lane_setLane_ne s h _

@[simp] theorem setLane_spout (e : Option Lane) : (s.setLane l e).spout j = s.spout j := rfl
@[simp] theorem setLane_spouts (e : Option Lane) : (s.setLane l e).spouts = s.spouts := rfl
@[simp] theorem setLane_pending (e : Option Lane) : (s.setLane l e).pending = s.pending := rfl
@[simp] theorem setLane_freeCount (e : Option Lane) : (s.setLane l e).freeCount = s.freeCount := rfl
@[simp] theorem setLane_silent (e : Option Lane) : (s.setLane l e).silent = s.silent := rfl
@[simp] theorem setLane_plantLine (e : Option Lane) : (s.setLane l e).plantLine = s.plantLine := rfl
@[simp] theorem setLane_fieldLine (e : Option Lane) : (s.setLane l e).fieldLine = s.fieldLine := rfl
@[simp] theorem updLane_spout (k : Lane → Lane) : (s.updLane l k).spout j = s.spout j := rfl
@[simp] theorem updLane_spouts (k : Lane → Lane) : (s.updLane l k).spouts = s.spouts := rfl
@[simp] theorem updLane_pending (k : Lane → Lane) : (s.updLane l k).pending = s.pending := rfl
@[simp] theorem updLane_freeCount (k : Lane → Lane) : (s.updLane l k).freeCount = s.freeCount := rfl
@[simp] theorem updLane_silent (k : Lane → Lane) : (s.updLane l k).silent = s.silent := rfl
@[simp] theorem updLane_plantLine (k : Lane → Lane) : (s.updLane l k).plantLine = s.plantLine := rfl
@[simp] theorem updLane_fieldLine (k : Lane → Lane) : (s.updLane l k).fieldLine = s.fieldLine := rfl

/-! ### A spout's record -/

section Records

variable (p : Spout) (st : SpoutState) (k : AlertKind) (d : Nat)

@[simp] theorem Spout.enter_state : (p.enter st).ctl.state = st := rfl
@[simp] theorem Spout.enter_reportDue : (p.enter st).reportDue = true := rfl
@[simp] theorem Spout.enter_chan : (p.enter st).chan = p.chan := rfl
@[simp] theorem Spout.enter_curve : (p.enter st).curve = p.curve := rfl
@[simp] theorem Spout.enter_zero : (p.enter st).zero = p.zero := rfl
@[simp] theorem Spout.enter_par : (p.enter st).par = p.par := rfl
@[simp] theorem Spout.enter_queue : (p.enter st).queue = p.queue := rfl
@[simp] theorem Spout.enter_ring : (p.enter st).ring = p.ring := rfl
@[simp] theorem Spout.enter_place : (p.enter st).place = p.place := rfl
@[simp] theorem Spout.enter_alerts : (p.enter st).alerts = p.alerts := rfl
@[simp] theorem Spout.enter_gatePending : (p.enter st).gatePending = p.gatePending := rfl
@[simp] theorem Spout.enter_tau : (p.enter st).ctl.tau = p.ctl.tau := rfl
@[simp] theorem Spout.enter_ratio : (p.enter st).ctl.ratio = p.ctl.ratio := rfl
@[simp] theorem Spout.enter_sentDemand : (p.enter st).ctl.sentDemand = p.ctl.sentDemand := rfl
@[simp] theorem Spout.enter_gateDemand : (p.enter st).ctl.gateDemand = p.ctl.gateDemand := rfl
@[simp] theorem Spout.enter_openComp : (p.enter st).ctl.openComp = p.ctl.openComp := rfl
@[simp] theorem Spout.enter_resumePhase : (p.enter st).ctl.resumePhase = p.ctl.resumePhase := rfl

@[simp] theorem Spout.raise_ctl : (p.raise k d).ctl = p.ctl := rfl
@[simp] theorem Spout.raise_chan : (p.raise k d).chan = p.chan := rfl
@[simp] theorem Spout.raise_curve : (p.raise k d).curve = p.curve := rfl
@[simp] theorem Spout.raise_zero : (p.raise k d).zero = p.zero := rfl
@[simp] theorem Spout.raise_par : (p.raise k d).par = p.par := rfl
@[simp] theorem Spout.raise_queue : (p.raise k d).queue = p.queue := rfl
@[simp] theorem Spout.raise_ring : (p.raise k d).ring = p.ring := rfl
@[simp] theorem Spout.raise_place : (p.raise k d).place = p.place := rfl
@[simp] theorem Spout.raise_reportDue : (p.raise k d).reportDue = p.reportDue := rfl
@[simp] theorem Spout.raise_gatePending : (p.raise k d).gatePending = p.gatePending := rfl

theorem Spout.raise_mark : (p.raise k d).alerts[k.index] = p.alerts[k.index].occur d := by
  simp [Spout.raise]

@[simp] theorem Spout.orderGate_ctl : p.orderGate.ctl = p.ctl := rfl
@[simp] theorem Spout.orderGate_zero : p.orderGate.zero = p.zero := rfl
@[simp] theorem Spout.orderGate_place : p.orderGate.place = p.place := rfl
@[simp] theorem Spout.orderGate_gatePending : p.orderGate.gatePending = true := rfl

@[simp] theorem Spout.demandUpdate_state : p.demandUpdate.ctl.state = p.ctl.state := rfl
@[simp] theorem Spout.demandUpdate_place : p.demandUpdate.place = p.place := rfl
@[simp] theorem Spout.demandUpdate_zero : p.demandUpdate.zero = p.zero := rfl

@[simp] theorem Spout.openGate_state : p.openGate.ctl.state = (p.ctl.resumePhase.getD .coarse).state := rfl
@[simp] theorem Spout.openGate_place : p.openGate.place = p.place := rfl
@[simp] theorem Spout.openGate_zero : p.openGate.zero = p.zero := rfl

@[simp] theorem Phase.state_gateOpen (ph : Phase) : ph.state.gateOpen = true := by cases ph <;> rfl

end Records

end Machine

end Sys2Proof
end

