-- ==== Sys2Proof/Laws/Curve.lean ====
section
/-! SUPPORT. The curve store: the validity test (R24) and a write of points through the window (R27). -/

set_option Elab.async false

namespace Sys2Proof.Machine

variable (v : Vector Nat 17)

theorem getD_setIfInBounds (i x k : Nat) :
    (v.setIfInBounds i x).getD k 0 = if k = i ∧ i < 17 then x else v.getD k 0 := by
  by_cases h : k < 17
  · by_cases e : k = i
    · subst e; simp [Vector.getD, h]
    · simp [Vector.getD, h, e, Array.getElem_setIfInBounds_ne _ (Ne.symm e)]
  · have : ¬ (k = i ∧ i < 17) := by omega
    simp [Vector.getD, h, this]

/-- R24: the lowest falling point is found. -/
theorem fallsFrom_some {n i k : Nat} (hi : i ≤ k) (hk : k < i + n) (hf : v.getD k 0 < v.getD (k - 1) 0)
    (hr : ∀ j, i ≤ j → j < k → v.getD (j - 1) 0 ≤ v.getD j 0) : fallsFrom v n i = some k := by
  induction n generalizing i with
  | zero => omega
  | succ n ih =>
    unfold fallsFrom
    by_cases e : i = k
    · subst e; rw [if_pos hf]
    · rw [if_neg (Nat.not_lt.mpr (hr i le_rfl (by omega)))]
      exact ih (by omega) (by omega) fun j a b => hr j (by omega) b

/-- R24: points that nowhere fall have no falling point. -/
theorem fallsFrom_none {n i : Nat} (hr : ∀ j, i ≤ j → j < i + n → v.getD (j - 1) 0 ≤ v.getD j 0) :
    fallsFrom v n i = none := by
  induction n generalizing i with
  | zero => rfl
  | succ n ih =>
    unfold fallsFrom
    rw [if_neg (Nat.not_lt.mpr (hr i le_rfl (by omega)))]
    exact ih fun j a b => hr j (by omega) (by omega)

theorem Writing.take_stores {w : Writing} {last x : Nat} (h : w.cursor ≤ last) :
    Writing.take last w x = ⟨w.points.setIfInBounds w.cursor (min 20000 x), w.cursor + 1, w.stored + 1,
      w.clamped || decide (20000 < x)⟩ := by simp [Writing.take, h]

theorem Writing.take_skips {w : Writing} {last x : Nat} (h : last < w.cursor) : Writing.take last w x = w := by
  simp [Writing.take, Nat.not_le.mpr h]

/-- R27: values past the window's last point are not taken. -/
theorem Writing.foldl_full {w : Writing} {last : Nat} (h : last < w.cursor) (xs : List Nat) :
    xs.foldl (Writing.take last) w = w := by
  induction xs with
  | nil => rfl
  | cons x xs ih => rw [List.foldl_cons, Writing.take_skips h, ih]

end Sys2Proof.Machine
end

