-- ==== Sys2Proof/Laws/Grants.lean ====
section
/-! SUPPORT. What the blower arbiter can do: a grant decision, a release and an entry to AWAIT_AIR, said once for each spout and
for the rest of the device. -/

set_option Elab.async false

namespace Sys2Proof.Machine

variable (s : State) (i j : SpoutId)

/-! ### The rest of the device -/

theorem lanes_of_device {s t : State} (h : t.device = s.device) : t.lanes = s.lanes := by
  have h' := congrArg State.lanes h
  exact h'
theorem lane_of_device {s t : State} (h : t.device = s.device) (l : LaneId) : t.lane l = s.lane l := by
  simp only [State.lane, lanes_of_device h]
theorem laneOf_of_device {s t : State} (h : t.device = s.device) (i : SpoutId) (r : Role) :
    t.laneOf i r = s.laneOf i r := by
  simp only [State.laneOf, lane_of_device h]
theorem roleLane_of_device {s t : State} (h : t.device = s.device) (i : SpoutId) (r : Role) :
    t.roleLane i r = s.roleLane i r := by
  have : t.lane = s.lane := funext (lane_of_device h)
  simp only [State.roleLane, laneOf_of_device h, this]
theorem pending_of_device {s t : State} (h : t.device = s.device) : t.pending = s.pending := by
  have h' := congrArg State.pending h
  exact h'
theorem silent_of_device {s t : State} (h : t.device = s.device) : t.silent = s.silent := by
  have h' := congrArg State.silent h
  exact h'
theorem grantCount_of_device {s t : State} (h : t.device = s.device) : t.grantCount = s.grantCount := by
  have h' := congrArg State.grantCount h
  exact h'
theorem chain_of_device {s t : State} (h : t.device = s.device) : t.chain = s.chain := by
  have h' := congrArg State.chain h
  exact h'
theorem gate_of_device {s t : State} (h : t.device = s.device) (i : SpoutId) : t.gate i = s.gate i := by
  simp only [State.gate, roleLane_of_device h]
theorem probeClear_of_device {s t : State} (h : t.device = s.device) (i : SpoutId) :
    t.probeClear i = s.probeClear i := by
  simp only [State.probeClear, roleLane_of_device h]
theorem bayPermissive_of_device {s t : State} (h : t.device = s.device) (i : SpoutId) :
    t.bayPermissive i = s.bayPermissive i := by
  simp only [State.bayPermissive, roleLane_of_device h]
theorem permitted_of_device {s t : State} (h : t.device = s.device) (i : SpoutId) : t.permitted i = s.permitted i := by
  simp only [State.permitted, probeClear_of_device h, bayPermissive_of_device h, silent_of_device h]

/-! ### One spout -/

@[simp] theorem upd_id : s.upd i (fun p => p) = s := by
  refine state_ext rfl (fun j => ?_) rfl
  rw [spout_upd]; split
  · next h => rw [h]
  · rfl

@[simp] theorem Spout.takeGrant_place (p : Spout) : p.takeGrant.place = .holder := rfl
@[simp] theorem Spout.takeGrant_state (p : Spout) : p.takeGrant.ctl.state = p.ctl.state := rfl
@[simp] theorem Spout.takeGrant_zero (p : Spout) : p.takeGrant.zero = p.zero := rfl
@[simp] theorem Spout.giveUpAir_place (p : Spout) : p.giveUpAir.place = .neither := by
  unfold Spout.giveUpAir; split <;> first | assumption | rfl
@[simp] theorem Spout.giveUpAir_state (p : Spout) : p.giveUpAir.ctl.state = p.ctl.state := by
  unfold Spout.giveUpAir; split <;> rfl

theorem Spout.regranted_refl (p : Spout) : p.regranted p := .inl rfl

/-- A second decision does nothing to a spout that the first one granted. -/
theorem Spout.regranted_trans {p q r : Spout} (h : p.regranted q) (h' : q.regranted r) : p.regranted r := by
  rcases h with rfl | ⟨hw, rfl | ⟨ha, rfl⟩⟩
  · exact h'
  · rcases h' with rfl | ⟨hw', -⟩
    · exact .inr ⟨hw, .inl rfl⟩
    · simp at hw'
  · rcases h' with rfl | ⟨hw', -⟩
    · exact .inr ⟨hw, .inr ⟨ha, rfl⟩⟩
    · simp at hw'

theorem Spout.regranted_of_ne {p q : Spout} (h : p.regranted q) (hp : p.place ≠ .waiter) : q = p := by
  rcases h with h | ⟨h', -⟩
  · exact h
  · exact absurd h' hp

/-! ### Pressure -/

theorem examinePressure_spout_ne {i j : SpoutId} (h : j ≠ i) : (examinePressure i s).spout j = s.spout j := by
  unfold examinePressure; split
  · exact spout_upd_ne s _ h
  · rfl

theorem examinePressure_spout_same :
    (examinePressure i s).spout i = s.spout i ∨
      ((s.spout i).ctl.state = .awaitAir ∧ (s.spout i).place = .holder ∧ s.airReached i = true ∧
        (examinePressure i s).spout i = (s.spout i).openGate) := by
  unfold examinePressure; split
  · next h => exact .inr ⟨h.1, h.2.1, h.2.2, by simp⟩
  · exact .inl rfl

@[simp] theorem examinePressure_device : (examinePressure i s).device = s.device := by
  unfold examinePressure; split <;> rfl

@[simp] theorem examinePressure_freeCount : (examinePressure i s).freeCount = s.freeCount := by
  unfold examinePressure; split <;> rfl

/-! ### Grant decisions -/

theorem grantTo_regrants (h : (s.spout i).place = .waiter) : (s.spout j).regranted ((grantTo i s).spout j) := by
  unfold grantTo
  by_cases hj : j = i
  · subst hj
    rcases examinePressure_spout_same (s.upd j Spout.takeGrant) j with h' | ⟨ha, -, -, h'⟩
    · rw [h']; exact .inr ⟨h, .inl (by simp)⟩
    · rw [h']; exact .inr ⟨h, .inr ⟨by simpa using ha, by simp⟩⟩
  · rw [examinePressure_spout_ne _ hj, spout_upd_ne _ _ hj]; exact .inl rfl

@[simp] theorem grantTo_device : (grantTo i s).device = s.device := by simp [grantTo]
@[simp] theorem grantTo_freeCount : (grantTo i s).freeCount = s.freeCount := by simp [grantTo]

theorem firstWaiter_waits {s : State} {i : SpoutId} (h : s.firstWaiter = some i) : (s.spout i).place = .waiter := by
  simpa using List.find?_some h

/-- A decision leaves each spout as it stood, or grants it. -/
theorem decideGrants_regrants (fuel : Nat) (s : State) (j : SpoutId) :
    (s.spout j).regranted ((decideGrants fuel s).spout j) := by
  induction fuel generalizing s with
  | zero => exact .inl rfl
  | succ n ih =>
    unfold decideGrants
    split
    · split
      · next i hi => exact Spout.regranted_trans (grantTo_regrants s i j (firstWaiter_waits hi)) (ih _)
      · exact .inl rfl
    · exact .inl rfl

theorem decideGrants_device (fuel : Nat) (s : State) : (decideGrants fuel s).device = s.device := by
  induction fuel generalizing s with
  | zero => rfl
  | succ n ih =>
    unfold decideGrants
    split
    · split
      · rw [ih]; simp
      · rfl
    · rfl

theorem decideGrants_freeCount (fuel : Nat) (s : State) : (decideGrants fuel s).freeCount = s.freeCount := by
  induction fuel generalizing s with
  | zero => rfl
  | succ n ih =>
    unfold decideGrants
    split
    · split
      · rw [ih]; simp
      · rfl
    · rfl

theorem grantDecision_regrants : (s.spout j).regranted ((grantDecision s).spout j) := decideGrants_regrants 4 s j
@[simp] theorem grantDecision_device : (grantDecision s).device = s.device := decideGrants_device 4 s
@[simp] theorem grantDecision_freeCount : (grantDecision s).freeCount = s.freeCount := decideGrants_freeCount 4 s

/-! ### Releases -/

@[simp] theorem releaseAir_device : (releaseAir i s).device = s.device := by
  unfold releaseAir; dsimp only; split <;> simp

@[simp] theorem releaseAir_freeCount : (releaseAir i s).freeCount = s.freeCount := by
  unfold releaseAir; dsimp only; split <;> simp

@[simp] theorem releaseAir_spout_same : (releaseAir i s).spout i = (s.spout i).giveUpAir := by
  unfold releaseAir; dsimp only; split
  · have h := grantDecision_regrants (s.upd i Spout.giveUpAir) i
    rw [spout_upd_same] at h
    exact Spout.regranted_of_ne h (by simp)
  · simp

theorem releaseAir_regrants {i j : SpoutId} (h : j ≠ i) : (s.spout j).regranted ((releaseAir i s).spout j) := by
  unfold releaseAir; dsimp only; split
  · have h' := grantDecision_regrants (s.upd i Spout.giveUpAir) j
    rwa [spout_upd_ne _ _ h] at h'
  · rw [spout_upd_ne _ _ h]; exact .inl rfl

/-- A release between two changes of the same spout spares everything else. -/
theorem release_spares (f g : Spout → Spout) : s.spares ((releaseAir i (s.upd i f)).upd i g) i := by
  refine ⟨by simp, by simp, fun j h => ?_⟩
  rw [spout_upd_ne _ _ h]
  have h' := releaseAir_regrants (s.upd i f) h
  rwa [spout_upd_ne _ _ h] at h'

theorem release_spout (f g : Spout → Spout) :
    ((releaseAir i (s.upd i f)).upd i g).spout i = g (f (s.spout i)).giveUpAir := by simp

theorem spares_refl : s.spares s i := ⟨rfl, rfl, fun _ _ => .inl rfl⟩

theorem spares_upd (f : Spout → Spout) : s.spares (s.upd i f) i :=
  ⟨rfl, rfl, fun _ h => .inl (spout_upd_ne s f h)⟩

theorem spares_trans {s t u : State} {i : SpoutId} (h : s.spares t i) (h' : t.spares u i) : s.spares u i :=
  ⟨h'.1.trans h.1, h'.2.1.trans h.2.1, fun j hj => Spout.regranted_trans (h.2.2 j hj) (h'.2.2 j hj)⟩

/-! ### Entries to AWAIT_AIR -/

@[simp] theorem enter_device (st : SpoutState) : (enter i st s).device = s.device := rfl
@[simp] theorem enter_freeCount (st : SpoutState) : (enter i st s).freeCount = s.freeCount := rfl

theorem askForAir_spares : s.spares (askForAir i s) i := by
  refine ⟨by simp [askForAir], by simp [askForAir], fun j h => ?_⟩
  have h' := grantDecision_regrants (s.upd i Spout.becomeWaiter) j
  rwa [spout_upd_ne _ _ h] at h'

/-- The spout that asks is a waiter afterwards, or a holder, or has entered its resume phase. -/
theorem askForAir_spout :
    ((s.spout i).becomeWaiter).regranted ((askForAir i s).spout i) := by
  have h' := grantDecision_regrants (s.upd i Spout.becomeWaiter) i
  rwa [spout_upd_same] at h'

@[simp] theorem askForAir_device : (askForAir i s).device = s.device := (askForAir_spares s i).1
@[simp] theorem askForAir_freeCount : (askForAir i s).freeCount = s.freeCount := (askForAir_spares s i).2.1

theorem examineArmed_spares : s.spares (examineArmed i s) i := by
  unfold examineArmed; split
  · exact spares_trans (spares_upd s i _) (askForAir_spares _ i)
  · exact spares_refl s i

theorem examineArmed_spout :
    (examineArmed i s).spout i = s.spout i ∨
      ((s.spout i).ctl.state = .armed ∧ s.permitted i = true ∧
        (((s.spout i).enter .awaitAir).becomeWaiter).regranted ((examineArmed i s).spout i)) := by
  unfold examineArmed; split
  · next h =>
    refine .inr ⟨h.1, h.2, ?_⟩
    have h' := askForAir_spout (enter i .awaitAir s) i
    simpa [enter] using h'
  · exact .inl rfl

@[simp] theorem examineArmed_device : (examineArmed i s).device = s.device := (examineArmed_spares s i).1
@[simp] theorem examineArmed_freeCount : (examineArmed i s).freeCount = s.freeCount := (examineArmed_spares s i).2.1

@[simp] theorem openCompartment_device : (openCompartment i s).device = s.device := by simp [openCompartment]
@[simp] theorem openCompartment_freeCount : (openCompartment i s).freeCount = s.freeCount := by simp [openCompartment]

theorem openCompartment_spares : s.spares (openCompartment i s) i :=
  spares_trans (spares_upd s i _) (examineArmed_spares _ i)

/-! ### HELD, TAILING, FAULTED -/

theorem enterHeld_spares (r : HeldReason) : s.spares (enterHeld r i s) i := release_spares s i _ _
theorem enterTailing_spares (r : EndReason) : s.spares (enterTailing r i s) i := release_spares s i _ _

theorem enterHeld_spout (r : HeldReason) :
    (enterHeld r i s).spout i = (s.spout i).shutGate.giveUpAir.becomeHeld r := by simp [enterHeld]
theorem enterTailing_spout (r : EndReason) :
    (enterTailing r i s).spout i = (s.spout i).shutGate.giveUpAir.becomeTailing r := by simp [enterTailing]

theorem enterFault_spares (k : FaultKind) : s.spares (enterFault k i s) i := by
  unfold enterFault; split
  · exact spares_refl s i
  · exact release_spares s i _ _

theorem enterFault_spout (k : FaultKind) :
    (enterFault k i s).spout i =
      if (s.spout i).ctl.state = .parked ∨ (s.spout i).ctl.state = .faulted then s.spout i
      else (s.spout i).shutGate.giveUpAir.fault k := by
  unfold enterFault; split
  · rfl
  · simp

@[simp] theorem enterHeld_device (r : HeldReason) : (enterHeld r i s).device = s.device := (enterHeld_spares s i r).1
@[simp] theorem enterHeld_freeCount (r : HeldReason) : (enterHeld r i s).freeCount = s.freeCount :=
  (enterHeld_spares s i r).2.1
@[simp] theorem enterTailing_device (r : EndReason) : (enterTailing r i s).device = s.device :=
  (enterTailing_spares s i r).1
@[simp] theorem enterTailing_freeCount (r : EndReason) : (enterTailing r i s).freeCount = s.freeCount :=
  (enterTailing_spares s i r).2.1
@[simp] theorem enterFault_device (k : FaultKind) : (enterFault k i s).device = s.device := (enterFault_spares s i k).1
@[simp] theorem enterFault_freeCount (k : FaultKind) : (enterFault k i s).freeCount = s.freeCount :=
  (enterFault_spares s i k).2.1

/-! ### A grant decision and a spout that does not wait -/

section Bystander

variable {s : State} {i j : SpoutId} {f : Spout → Spout}

/-- Changes of two different spouts commute. -/
theorem upd_comm (h : i ≠ j) (f g : Spout → Spout) : (s.upd i f).upd j g = (s.upd j g).upd i f := by
  match i, j with
  | 0, 0 | 1, 1 | 2, 2 | 3, 3 => exact absurd rfl h
  | 0, 1 | 0, 2 | 0, 3 | 1, 0 | 1, 2 | 1, 3 | 2, 0 | 2, 1 | 2, 3 | 3, 0 | 3, 1 | 3, 2 => rfl

theorem place_upd (hf : (f (s.spout i)).place = (s.spout i).place) (k : SpoutId) :
    ((s.upd i f).spout k).place = (s.spout k).place := by
  rw [spout_upd]; split
  · next h => rw [h, hf]
  · rfl

theorem holders_upd (hf : (f (s.spout i)).place = (s.spout i).place) : (s.upd i f).holders = s.holders := by
  simp only [State.holders, place_upd hf]

theorem firstWaiter_upd (hf : (f (s.spout i)).place = (s.spout i).place) : (s.upd i f).firstWaiter = s.firstWaiter := by
  simp only [State.firstWaiter, place_upd hf, upd_chain]

theorem grantTo_upd (h : j ≠ i) : grantTo j (s.upd i f) = (grantTo j s).upd i f := by
  have hs : ((s.upd i f).upd j Spout.takeGrant) = (s.upd j Spout.takeGrant).upd i f := upd_comm h.symm _ _
  have hspout : ((s.upd j Spout.takeGrant).upd i f).spout j = (s.upd j Spout.takeGrant).spout j := spout_upd_ne _ _ h
  have hair : ((s.upd j Spout.takeGrant).upd i f).airReached j = (s.upd j Spout.takeGrant).airReached j := by
    simp only [State.airReached, upd_roleLane, hspout]
  simp only [grantTo, hs, examinePressure, hspout, hair]
  split
  · exact upd_comm h.symm _ _
  · rfl

theorem decideGrants_upd (n : Nat) : ∀ (s : State), (s.spout i).place = .neither → (f (s.spout i)).place = .neither →
    decideGrants n (s.upd i f) = (decideGrants n s).upd i f := by
  induction n with
  | zero => intros; rfl
  | succ n ih =>
    intro s hp hf
    have hpl : (f (s.spout i)).place = (s.spout i).place := hf.trans hp.symm
    simp only [decideGrants, holders_upd hpl, firstWaiter_upd hpl, upd_grantCount]
    split
    · split
      · next j hj =>
        have hji : j ≠ i := by
          intro e; subst e
          have := firstWaiter_waits hj
          rw [hp] at this; cases this
        have hsp : (grantTo j s).spout i = s.spout i := by
          simp only [grantTo]
          rw [examinePressure_spout_ne _ hji.symm, spout_upd_ne _ _ hji.symm]
        rw [grantTo_upd hji]
        exact ih _ (by rw [hsp]; exact hp) (by rw [hsp]; exact hf)
      · rfl
    · rfl

/-- R138: a grant decision leaves a spout that does not wait as it stands, whatever else changes in it. -/
theorem grantDecision_upd (hp : (s.spout i).place = .neither) (hf : (f (s.spout i)).place = .neither) :
    grantDecision (s.upd i f) = (grantDecision s).upd i f := decideGrants_upd 4 s hp hf

/-- R142: a release between two changes of the spout is the release to the record that they leave. -/
theorem release_released (s : State) (i : SpoutId) (f g : Spout → Spout) (hf : ∀ p : Spout, (f p).place = p.place)
    (hg : ∀ p : Spout, (g p).place = p.place) :
    (releaseAir i (s.upd i f)).upd i g = s.released i (g (f (s.spout i)).giveUpAir) := by
  have hu : ((s.upd i f).upd i Spout.giveUpAir).upd i g = s.upd i fun _ => g (f (s.spout i)).giveUpAir := by
    refine state_ext rfl (fun j => ?_) rfl
    simp only [upd_upd, spout_upd]
  have hpl : (((s.upd i f).upd i Spout.giveUpAir).spout i).place = .neither := by simp
  simp only [releaseAir, State.released, spout_upd_same, hf]
  split
  · rw [← grantDecision_upd hpl (by rw [hg]; exact hpl), hu]
  · exact hu

end Bystander

end Sys2Proof.Machine
end

