-- ==== Sys2Proof/Laws/Keep.lean ====
section
/-! SUPPORT. One induction for every property of single spouts: a property that each change of a spout's record keeps
(`Keeps`) holds of every spout after every step (`step_keeps`). A request acts on the state it finds, so the changes that only
requests make are asked for on that state alone. -/

set_option Elab.async false

namespace Sys2Proof.Machine

/-- The property holds of every spout of a state. -/
def All (P : SpoutId → Spout → Prop) (s : State) : Prop := ∀ i, P i (s.spout i)

/-- Every change of a spout's record keeps the property. `s` is the state that the command acts on. -/
structure Keeps (s : State) (P : SpoutId → Spout → Prop) : Prop where
  marked : ∀ i p q, p.unmarked = q.unmarked → P i p → P i q
  takeGrant : ∀ i p, p.place = .waiter → P i p → P i p.takeGrant
  openGate : ∀ i p, p.ctl.state = .awaitAir → p.place = .holder → P i p → P i p.openGate
  held : ∀ i p r, p.ctl.state = .armed ∨ p.ctl.state = .awaitAir ∨ p.ctl.state.gateOpen = true → P i p →
    P i (p.shutGate.giveUpAir.becomeHeld r)
  tailing : ∀ i p r, p.ctl.state.gateOpen = true ∨ p.ctl.state = .held → P i p →
    P i (p.shutGate.giveUpAir.becomeTailing r)
  fault : ∀ i p k, p.ctl.state ≠ .parked → p.ctl.state ≠ .faulted → P i p → P i (p.shutGate.giveUpAir.fault k)
  backToArmed : ∀ i p, p.ctl.state = .awaitAir → P i p → P i (p.giveUpAir.enter .armed)
  enterAwait : ∀ i p, p.ctl.state = .armed → P i p → P i (p.enter .awaitAir).becomeWaiter
  acceptForce : ∀ i p seq, P i p → P i (p.acceptForce seq)
  countMissed : ∀ i p, P i p → P i p.countMissed
  starveChannel : ∀ i p, P i p → P i p.starveChannel
  workGood : ∀ i p raw hs, raw < 1048576 → P i p → P i (p.workGood raw hs)
  workFill : ∀ i p, P i p → P i p.workFill
  countDuration : ∀ i p, P i p → P i p.countDuration
  enterFineBand : ∀ i p, p.ctl.state = .coarse → P i p → P i p.enterFineBand
  floodDrop : ∀ i p, p.ctl.state = .coarse → P i p → P i p.floodDrop
  tickFlood : ∀ i p, p.ctl.state.gateOpen = true → p.floodDropReached = false → p.floodClosureReached = false → P i p →
    P i p.tickFlood
  countPacing : ∀ i p, P i p → P i p.countPacing
  pace : ∀ i p, P i p → P i p.pace
  tickAirLost : ∀ i p low, p.ctl.state.gateOpen = true → (low = true → p.ctl.airLostRun + 1 < 200) → P i p →
    P i (p.tickAirLost low)
  tickPressure : ∀ i p, p.ctl.state = .awaitAir → p.airFailReached = false → P i p → P i p.tickPressure
  tickStuck : ∀ i p isOpen, (isOpen = true → p.ctl.state.stuckExempt = false ∧ p.ctl.stuckRun + 1 < 1200) → P i p →
    P i (p.tickStuck isOpen)
  countTail : ∀ i p, p.ctl.state = .tailing → P i p → P i p.countTail
  endTail : ∀ i p b, p.ctl.state = .tailing → P i p → P i (p.endTail b)
  countReport : ∀ i p, P i p → P i p.countReport
  reportExpires : ∀ i p, P i p → P i p.reportExpires
  oweStep : ∀ i p, P i p → P i p.oweStep
  tickDue : ∀ i p, p.ctl.state ≠ .parked → p.dueReached = false → P i p → P i p.tickDue
  endRetry : ∀ i p, P i p → P i p.endRetry
  tickRetry : ∀ i p, p.retryEnds = false → P i p → P i p.tickRetry
  examineZeroing : ∀ i p, P i p → P i p.examineZeroing
  abandonStep : ∀ i p, P i p → P i p.abandonStep
  takeSample : ∀ i p raw st, p.zero.step = some st → raw < 1048576 → st.taken + 1 < st.length → P i p →
    P i (p.takeSample raw)
  completeNormal : ∀ i p st raw, p.zero.step = some st → st.kind = .normal → raw < 1048576 → st.length ≤ st.taken + 1 →
    P i p → P i ((p.takeSample raw).completeNormal (st.take raw))
  completeZeroNow : ∀ i p st raw, p.zero.step = some st → st.kind = .zeroNow → raw < 1048576 → st.length ≤ st.taken + 1 →
    P i p → P i (((p.takeSample raw).judge true (st.take raw).sum).endStep)
  completeMakeup : ∀ i p st raw, p.zero.step = some st → st.kind = .makeup → raw < 1048576 → st.length ≤ st.taken + 1 →
    P i p → P i ((p.takeSample raw).completeMakeup (st.take raw))
  openReady : ∀ i p, p.ctl.state = .ready → P i p → P i p.openCompartment
  openZeroing : ∀ i p st, p.ctl.state = .zeroing → p.zero.step = some st → st.origin = .ready → P i p →
    P i p.openCompartment
  setParam : ∀ i q v, (q.fixedInCompartment = true → (s.spout i).ctl.state.compartmentOpen = false) →
    P i (s.spout i) → P i ((s.spout i).setParam q (q.limit v))
  written : ∀ i b v, (s.spout i).curve.bankLocked b = false →
    ((∀ k, ((s.spout i).curve.points b).getD k 0 ≤ 20000) → ∀ k, v.getD k 0 ≤ 20000) → P i (s.spout i) →
    P i { s.spout i with curve := (s.spout i).curve.written b v }
  failSwitch : ∀ i, (s.spout i).curve.exchangePending = false → P i (s.spout i) → P i (s.spout i).failSwitch
  deferSwitch : ∀ i, failingPoint ((s.spout i).curve.points (s.spout i).curve.standby) = none →
    (s.spout i).ctl.state.compartmentOpen = true → P i (s.spout i) → P i (s.spout i).deferSwitch
  switchNow : ∀ i, failingPoint ((s.spout i).curve.points (s.spout i).curve.standby) = none →
    (s.spout i).ctl.state.compartmentOpen = false → P i (s.spout i) → P i (s.spout i).switchNow
  mapForce : ∀ i, (s.spout i).ctl.state = .parked → P i (s.spout i) → P i (s.spout i).mapForce
  join : ∀ i ps, ((s.spout i).ctl.state = .parked → s.configured i = true) →
    ((s.spout i).queue.any fun o => o.tag == word16At ps 1) = false → (s.spout i).queue.length < 8 →
    s.heldOrders < 16 → 1 ≤ word16At ps 1 → 1 ≤ byteAt ps 3 → byteAt ps 3 ≤ 6 → P i (s.spout i) →
    P i ((s.spout i).join (enqueueOrder ps))
  removeOrder : ∀ i tag, (s.spout i).headBears tag = false → P i (s.spout i) → P i ((s.spout i).removeOrder tag)
  cancelHead : ∀ i tag q, (s.spout i).headBears tag = true → (s.spout i).cancelHead tag = some q → P i (s.spout i) → P i q
  markProceed : ∀ i, (s.spout i).ctl.state = .ready ∨ (s.spout i).ctl.state = .zeroing → P i (s.spout i) →
    P i (s.spout i).markProceed
  endAborted : ∀ i, (s.spout i).ctl.state = .armed ∨ (s.spout i).ctl.state = .awaitAir → P i (s.spout i) →
    P i (s.spout i).markAborted.giveUpAir.endAborted
  abortLoading : ∀ i, (s.spout i).ctl.state.gateOpen = true ∨ (s.spout i).ctl.state = .held → P i (s.spout i) →
    P i ((s.spout i).markAborted.shutGate.giveUpAir.becomeTailing .abort)
  abortTail : ∀ i, (s.spout i).ctl.state = .tailing → P i (s.spout i) → P i (s.spout i).abortTail
  abortReady : ∀ i, (s.spout i).ctl.state = .ready → P i (s.spout i) → P i (s.spout i).abortReady
  resumeWaits : ∀ i, (s.spout i).ctl.state = .held → P i (s.spout i) → P i (s.spout i).leaveHeld.becomeWaiter
  resumeArmed : ∀ i, (s.spout i).ctl.state = .held → P i (s.spout i) →
    P i ((s.spout i).leaveHeld.giveUpAir.enter .armed)
  resumeHeld : ∀ i, (s.spout i).ctl.state = .held → P i (s.spout i) →
    P i ((s.spout i).leaveHeld.shutGate.giveUpAir.becomeHeld .bay)
  park : ∀ i, (s.spout i).ctl.state = .idle ∨ ((s.spout i).ctl.state = .zeroing ∧
    ∀ st, (s.spout i).zero.step = some st → st.origin = .idle) → P i (s.spout i) → P i (s.spout i).park
  unpark : ∀ i, (s.spout i).ctl.state = .parked → s.configured i = true → P i (s.spout i) → P i (s.spout i).unpark
  clearFault : ∀ i, (s.spout i).ctl.state = .faulted → P i (s.spout i) → P i (s.spout i).clearFault
  zeroNow : ∀ i, (s.spout i).ctl.state = .idle ∨ (s.spout i).ctl.state = .ready → P i (s.spout i) →
    P i (s.spout i).zeroNow
  restart : ∀ i p, P i p → P i p.restart
  reset : ∀ i, P i Spout.reset

variable {P : SpoutId → Spout → Prop} {s₀ s t : State} {i : SpoutId}

theorem all_upd {f : Spout → Spout} (h : All P s) (hf : P i (f (s.spout i))) : All P (s.upd i f) := by
  intro j
  rw [spout_upd]
  split
  · next e => subst e; exact hf
  · exact h j

namespace Keeps

variable (K : Keeps s₀ P)
include K

theorem upd {f : Spout → Spout} (hf : ∀ p, P i p → P i (f p)) (h : All P s) : All P (s.upd i f) :=
  all_upd h (hf _ (h i))

theorem regranted {p q : Spout} (hr : p.regranted q) (h : P i p) : P i q := by
  rcases hr with rfl | ⟨hw, rfl | ⟨ha, rfl⟩⟩
  · exact h
  · exact K.takeGrant i p hw h
  · exact K.openGate i _ (by simpa using ha) rfl (K.takeGrant i p hw h)

theorem spares (h : All P s) (hs : s.spares t i) (hi : P i (t.spout i)) : All P t := by
  intro j
  by_cases hj : j = i
  · subst hj; exact hi
  · exact K.regranted (hs.2.2 j hj) (h j)

theorem grantDecision (h : All P s) : All P (grantDecision s) :=
  fun j => K.regranted (grantDecision_regrants s j) (h j)

theorem examinePressure (h : All P s) : All P (examinePressure i s) := by
  unfold Machine.examinePressure
  split
  · next hc => exact all_upd h (K.openGate i _ hc.1 hc.2.1 (h i))
  · exact h

theorem enterHeld (r : HeldReason)
    (hs : (s.spout i).ctl.state = .armed ∨ (s.spout i).ctl.state = .awaitAir ∨ (s.spout i).ctl.state.gateOpen = true)
    (h : All P s) : All P (enterHeld r i s) :=
  K.spares h (enterHeld_spares s i r) (by rw [enterHeld_spout]; exact K.held i _ r hs (h i))

theorem enterTailing (r : EndReason) (hs : (s.spout i).ctl.state.gateOpen = true ∨ (s.spout i).ctl.state = .held)
    (h : All P s) : All P (enterTailing r i s) :=
  K.spares h (enterTailing_spares s i r) (by rw [enterTailing_spout]; exact K.tailing i _ r hs (h i))

theorem enterFault (k : FaultKind) (h : All P s) : All P (enterFault k i s) := by
  refine K.spares h (enterFault_spares s i k) ?_
  rw [enterFault_spout]
  split
  · exact h i
  · next hn => exact K.fault i _ k (fun e => hn (.inl e)) (fun e => hn (.inr e)) (h i)

theorem askForAir {f : Spout → Spout} (hf : P i (f (s.spout i)).becomeWaiter) (h : All P s) :
    All P (askForAir i (s.upd i f)) := by
  refine K.spares h (spares_trans (spares_upd s i f) (askForAir_spares _ i)) (K.regranted (askForAir_spout _ i) ?_)
  rwa [spout_upd_same]

theorem examineArmed (h : All P s) : All P (examineArmed i s) := by
  unfold Machine.examineArmed
  split
  · next hc =>
    exact K.askForAir (f := Spout.enter .awaitAir) (K.enterAwait i _ hc.1 (h i)) h
  · exact h

theorem releaseToArmed (hs : (s.spout i).ctl.state = .awaitAir) (h : All P s) :
    All P ((releaseAir i s).upd i (Spout.enter .armed)) := by
  have e := release_spares s i id (Spout.enter .armed)
  have e' : s.upd i id = s := upd_id s i
  rw [e'] at e
  exact K.spares h e (by simpa using K.backToArmed i _ hs (h i))

theorem openReady' (hs : (s.spout i).ctl.state = .ready) (h : All P s) : All P (openCompartment i s) :=
  K.examineArmed (all_upd h (K.openReady i _ hs (h i)))

theorem openZeroing' {st : ZeroStep} (hs : (s.spout i).ctl.state = .zeroing) (hst : (s.spout i).zero.step = some st)
    (ho : st.origin = .ready) (h : All P s) : All P (openCompartment i s) :=
  K.examineArmed (all_upd h (K.openZeroing i _ st hs hst ho (h i)))

/-! ### The zero tracker -/

theorem raise (k : AlertKind) (d : Nat) (h : All P s) : All P (raise i k d s) :=
  all_upd h (K.marked i (s.spout i) _ rfl (h i))

theorem examineZeroing' (h : All P s) : All P (Machine.examineZeroing i s) := K.upd (K.examineZeroing i) h

theorem duePoint (h : All P s) : All P (duePoint i s) := by
  unfold Machine.duePoint
  have h1 : All P (s.upd i Spout.oweStep) := K.upd (K.oweStep i) h
  dsimp only
  split
  · exact K.examineZeroing' (K.raise _ _ h1)
  · exact K.examineZeroing' h1

theorem countDue (h : All P s) : All P (countDue i s) := by
  unfold Machine.countDue
  split
  · exact K.duePoint h
  · next hd =>
    split
    · exact h
    · next hp => exact all_upd h (K.tickDue i _ hp (by simpa using hd) (h i))

theorem endRetryWait (h : All P s) : All P (endRetryWait i s) :=
  K.examineZeroing' (K.upd (K.endRetry i) h)

theorem countRetry (h : All P s) : All P (countRetry i s) := by
  unfold Machine.countRetry
  split
  · exact K.endRetryWait h
  · next hr => exact all_upd h (K.tickRetry i _ (by simpa using hr) (h i))

theorem abandonStep' (h : All P s) : All P (Machine.abandonStep i s) := K.upd (K.abandonStep i) h

theorem completeStep {raw : Nat} {hs : HeadStatus} (hr : raw < 1048576) (hc : s.completesStep i raw hs = true)
    (h : All P s) : All P (completeStep i (s.upd i (Spout.takeSample raw))) := by
  cases hst : (s.spout i).zero.step with
  | none => simp [State.completesStep, hst] at hc
  | some st =>
    have hl : st.length ≤ st.taken + 1 := by
      simp only [State.completesStep, hst, Bool.and_eq_true, decide_eq_true_eq] at hc
      exact hc.2
    have ht : (((s.upd i (Spout.takeSample raw)).spout i).zero.step) = some (st.take raw) := by
      simp [Spout.takeSample, hst]
    unfold Machine.completeStep
    rw [ht]
    show All P (match st.kind with | .normal => _ | .zeroNow => _ | .makeup => _)
    split
    · next hk =>
      rw [upd_upd]
      exact all_upd h (K.examineZeroing i _ (K.completeNormal i _ st raw hst hk hr hl (h i)))
    · next hk =>
      rw [upd_upd]
      exact all_upd h (K.examineZeroing i _ (K.completeZeroNow i _ st raw hst hk hr hl (h i)))
    · next hk =>
      rw [upd_upd, upd_upd]
      split
      · next hp =>
        refine K.openReady' ?_ (all_upd h (K.completeMakeup i _ st raw hst hk hr hl (h i)))
        have : st.origin = .ready := by
          simp only [Spout.proceedsAfter, Bool.and_eq_true, beq_iff_eq] at hp
          exact hp.1
        simp [Spout.completeMakeup, Spout.endStep, Spout.takeSample, hst, ZeroStep.take, this, Origin.state]
      · exact all_upd h (K.examineZeroing i _ (K.completeMakeup i _ st raw hst hk hr hl (h i)))

/-- The raw value of a sample that is handed on is a 20-bit value. -/
theorem stepSample (sample : Option (Nat × HeadStatus)) (hr : ∀ x ∈ sample, x.1 < 1048576) (h : All P s) :
    All P (stepSample i sample s) := by
  unfold Machine.stepSample
  split
  · next st raw hs hst =>
    have hr' : raw < 1048576 := hr (raw, hs) rfl
    split
    · next hc => exact K.completeStep hr' hc h
    · next hc =>
      split
      · next hp =>
        refine all_upd h (K.takeSample i _ raw st hst hr' ?_ (h i))
        simp only [State.completesStep, hst, hp, Bool.true_and, decide_eq_true_eq] at hc
        omega
      · exact K.abandonStep' h
  · exact K.abandonStep' h

theorem stepIf (sample : Option (Nat × HeadStatus)) (hr : ∀ x ∈ sample, x.1 < 1048576) (a : Bool) (h : All P s) : All P (stepIf i sample a s) := by
  unfold Machine.stepIf
  split
  · exact K.stepSample sample hr h
  · exact h

theorem dueAndStep (sample : Option (Nat × HeadStatus)) (hr : ∀ x ∈ sample, x.1 < 1048576) (a : Bool) (h : All P s) :
    All P (dueAndStep i sample a s) := by
  have hf : All P { s with freeCount := s.freeCount + 1 } := h
  unfold Machine.dueAndStep
  split
  · dsimp only
    split
    · exact K.stepIf sample hr a (K.countDue hf)
    · exact K.countDue (K.stepIf sample hr a hf)
  · exact K.stepIf sample hr a (K.countDue h)

theorem zeroSample (sample : Option (Nat × HeadStatus)) (hr : ∀ x ∈ sample, x.1 < 1048576) (a b : Bool) (h : All P s) :
    All P (zeroSample i sample a b s) := by
  unfold Machine.zeroSample retryIf
  split
  · exact K.countRetry (K.dueAndStep sample hr a h)
  · exact K.dueAndStep sample hr a h

/-! ### A sample handed on -/

theorem cutoffTests (hs : (s.spout i).ctl.state.gateOpen = true) (h : All P s) : All P (cutoffTests i s) := by
  unfold Machine.cutoffTests
  split
  · exact K.enterTailing _ (.inl hs) h
  · split
    · next hc => exact all_upd h (K.enterFineBand i _ hc.1 (h i))
    · exact h

theorem floodClosure (hs : (s.spout i).ctl.state = .fine) (h : All P s) : All P (floodClosure i s) :=
  K.raise _ _ (K.enterTailing _ (.inl (by rw [hs]; rfl)) h)

theorem countFlood (hg : (s.spout i).ctl.state.gateOpen = true) (h : All P s) : All P (countFlood i s) := by
  unfold Machine.countFlood
  split
  · next hc =>
    simp only [Spout.floodDropReached, Bool.and_eq_true, beq_iff_eq] at hc
    exact all_upd h (K.floodDrop i _ hc.1.1 (h i))
  · next hd =>
    split
    · next hc =>
      simp only [Spout.floodClosureReached, Bool.and_eq_true, beq_iff_eq] at hc
      exact K.floodClosure hc.1.1 h
    · next hc => exact all_upd h (K.tickFlood i _ hg (by simpa using hd) (by simpa using hc) (h i))

theorem countAirLost (hg : (s.spout i).ctl.state.gateOpen = true) (h : All P s) : All P (countAirLost i s) := by
  unfold Machine.countAirLost
  split
  · next hc =>
    simp only [State.airLostReached, Bool.and_eq_true] at hc
    exact K.enterHeld _ (.inr (.inr hc.1.1)) h
  · next hc =>
    refine all_upd h (K.tickAirLost i _ _ hg (fun hl => ?_) (h i))
    simp only [State.airLostReached, hg, hl, Bool.true_and, decide_eq_true_eq] at hc
    omega

theorem countPressureWait (hs : (s.spout i).ctl.state = .awaitAir) (h : All P s) : All P (countPressureWait i s) := by
  unfold Machine.countPressureWait
  split
  · exact K.enterFault _ h
  · next hc => exact all_upd h (K.tickPressure i _ hs (by simpa using hc) (h i))

theorem countStuck (h : All P s) : All P (countStuck i s) := by
  unfold Machine.countStuck
  split
  · exact K.enterFault _ h
  · next hc =>
    refine all_upd h (K.tickStuck i _ _ (fun ho => ?_) (h i))
    simp only [State.stuckReached, ho, Bool.true_and, decide_eq_true_eq] at hc
    simp only [State.gateStandsOpen, Bool.and_eq_true, Bool.not_eq_true'] at ho
    exact ⟨ho.1, by omega⟩

theorem controllerSample (h : All P s) : All P (controllerSample i s) := by
  unfold Machine.controllerSample
  have h0 : All P (s.upd i Spout.countDuration) := K.upd (K.countDuration i) h
  generalize s.upd i Spout.countDuration = s0 at h0
  dsimp only
  have h1 : All P (if (s0.spout i).ctl.state.gateOpen = true then Machine.cutoffTests i s0
      else if (s0.spout i).ctl.state = .tailing then s0.upd i Spout.countTail else s0) := by
    split
    · next hg => exact K.cutoffTests hg h0
    · split
      · next ht => exact all_upd h0 (K.countTail i _ ht (h0 i))
      · exact h0
  revert h1
  generalize (if (s0.spout i).ctl.state.gateOpen = true then Machine.cutoffTests i s0
      else if (s0.spout i).ctl.state = .tailing then s0.upd i Spout.countTail else s0) = s1
  intro h1
  have h2 : All P (if (s1.spout i).ctl.state.gateOpen = true then Machine.countFlood i s1 else s1) := by
    split
    · next hg => exact K.countFlood hg h1
    · exact h1
  revert h2
  generalize (if (s1.spout i).ctl.state.gateOpen = true then Machine.countFlood i s1 else s1) = s2
  intro h2
  have h3 : All P (s2.upd i Spout.countPacing) := K.upd (K.countPacing i) h2
  revert h3
  generalize s2.upd i Spout.countPacing = s3
  intro h3
  have h4 : All P (if (s3.spout i).ctl.state.gateOpen = true then Machine.countAirLost i s3 else s3) := by
    split
    · next hg => exact K.countAirLost hg h3
    · exact h3
  revert h4
  generalize (if (s3.spout i).ctl.state.gateOpen = true then Machine.countAirLost i s3 else s3) = s4
  intro h4
  apply K.countStuck
  split
  · next ha => exact K.countPressureWait ha h4
  · exact h4

theorem handOn (sample : Option (Nat × HeadStatus)) (hr : ∀ x ∈ sample, x.1 < 1048576) (h : All P s) :
    All P (handOn i sample s) :=
  K.upd (K.countReport i) (K.zeroSample _ hr _ _ (K.controllerSample h))

theorem goodSample (raw : Nat) (hs : HeadStatus) (hr : raw < 1048576) (h : All P s) : All P (goodSample i raw hs s) :=
  K.handOn _ (by simpa using hr) (K.upd (fun p => K.workGood i p raw hs hr) h)

theorem lanes (l : LaneId) (f : Lane → Lane) (h : All P s) : All P (s.updLane l f) := h

theorem countMissing (l : LaneId) (h : All P s) : All P (countMissing l i s) :=
  K.abandonStep' (K.upd (K.countMissed i) (K.lanes l _ h))

theorem loseSample (h : All P s) : All P (loseSample i s) := by
  unfold Machine.loseSample
  split
  · exact K.enterFault _ h
  · exact h

theorem missingSample (l : LaneId) (h : All P s) : All P (missingSample l i s) := by
  unfold Machine.missingSample
  have h1 := K.countMissing (i := i) l h
  dsimp only
  split
  · exact K.handOn _ (by simp) (K.upd (K.workFill i) h1)
  · exact K.loseSample h1

theorem missingSamples (l : LaneId) (n : Nat) (h : All P s) : All P (missingSamples l i n s) := by
  induction n generalizing s with
  | zero => exact h
  | succ n ih => exact ih (K.missingSample l h)

theorem starve (h : All P s) : All P (starve i s) := by
  unfold Machine.starve
  split
  · exact h
  · next l _ =>
    split
    · exact h
    · dsimp only
      have h1 : All P ((s.updLane l fun e => { e with age := 50, stale := true }).upd i Spout.starveChannel) :=
        K.upd (K.starveChannel i) (K.lanes l _ h)
      split
      · exact K.enterFault _ h1
      · exact K.abandonStep' h1

/-! ### The lane map -/

theorem probeCondition (h : All P s) : All P (probeCondition i s) := by
  unfold Machine.probeCondition
  split
  case h_4 e => exact K.releaseToArmed e h
  case h_1 e => exact K.enterTailing _ (.inl (by rw [e]; rfl)) h
  case h_2 e => exact K.enterTailing _ (.inl (by rw [e]; rfl)) h
  case h_3 e => exact K.enterTailing _ (.inr e) h
  all_goals exact h

theorem bayCondition (h : All P s) : All P (bayCondition i s) := by
  unfold Machine.bayCondition
  split
  case h_1 e => exact K.enterHeld _ (.inr (.inl e)) h
  case h_2 e => exact K.enterHeld _ (.inr (.inr (by rw [e]; rfl))) h
  case h_3 e => exact K.enterHeld _ (.inr (.inr (by rw [e]; rfl))) h
  all_goals exact h

theorem deliverForce (l : LaneId) (seq : Byte) (hs : HeadStatus) (v : Nat) (hv : v < 1048576) (h : All P s) :
    All P (deliverForce l i seq hs v s) := by
  unfold Machine.deliverForce
  dsimp only
  split
  · exact K.lanes l _ h
  · have h1 : All P ((s.updLane l Lane.refresh).upd i (Spout.acceptForce seq)) :=
      K.upd (fun p => K.acceptForce i p seq) (K.lanes l _ h)
    have h2 := K.missingSamples (i := i) l (seqDistance (s.spout i).chan.lastSeq seq - 1) h1
    split
    · exact K.missingSample l h2
    · exact K.goodSample _ _ hv h2
    · exact K.goodSample _ _ hv h2

theorem offerLatest (r : Role) (v : Nat) (h : All P s) : All P (offerLatest i r v s) := by
  unfold Machine.offerLatest
  split
  · exact h
  · exact h
  · exact K.examinePressure h
  · split
    · exact K.probeCondition h
    · exact K.examineArmed h
  · split
    · exact K.bayCondition h
    · exact K.examineArmed h

theorem takeLatest (l : LaneId) (e : Lane) (seq : Byte) (hs : HeadStatus) (v : Nat) (h : All P s) :
    All P (takeLatest l e seq hs v s) := by
  unfold Machine.takeLatest
  dsimp only
  split
  · exact K.lanes l _ h
  · split
    · exact K.lanes l _ h
    · exact K.offerLatest _ _ (K.lanes l _ (K.lanes l _ h))

theorem laneGoesStale (l : LaneId) (h : All P s) : All P (laneGoesStale l s) := by
  unfold Machine.laneGoesStale
  split
  · exact h
  · split
    · exact h
    · split
      · exact h
      · exact K.lanes l _ h
      · exact K.lanes l _ h
      · exact K.probeCondition (K.lanes l _ h)
      · exact K.bayCondition (K.lanes l _ h)

theorem passToPlant (run : Run) (h : All P s) : All P (passToPlant run s) := by
  unfold Machine.passToPlant; split <;> exact h

theorem passToField (run : Run) (h : All P s) : All P (passToField run s) := by
  unfold Machine.passToField; split <;> exact h

omit K in
/-- R172: the value of a SAMPLE has 20 bits. -/
theorem sampleValue_lt (run : Run) : sampleValue run < 1048576 := by
  have h : ∀ n, byteAt run n < 256 := fun n => (run.getD n 0).isLt
  have h4 := h 4; have h5 := h (4 + 1)
  have h3 : byteAt run 3 % 16 < 16 := Nat.mod_lt _ (by omega)
  unfold sampleValue word16At
  omega

theorem actOnSample (l : LaneId) (e : Lane) (run : Run) (h : All P s) : All P (actOnSample l e run s) := by
  unfold Machine.actOnSample
  dsimp only
  split
  · exact K.deliverForce _ _ _ _ (sampleValue_lt run) h
  all_goals exact K.takeLatest _ _ _ _ _ h

theorem routeSample (l : LaneId) (e : Lane) (run : Run) (h : All P s) : All P (routeSample l e run s) := by
  unfold Machine.routeSample
  split
  · exact h
  · split
    · apply K.actOnSample
      unfold forwardCopy; split
      · exact K.passToPlant run h
      · exact h
    · exact K.lanes l _ h

theorem fPortRun (run : Run) (h : All P s) : All P (fPortRun run s) := by
  unfold Machine.fPortRun
  split
  · exact h
  · split
    · split
      · exact K.passToPlant run h
      · exact K.routeSample _ _ _ h
    · exact K.passToPlant run h

/-! ### The link -/

theorem chooseField (is : List SpoutId) (h : All P s) : All P (chooseField is s) := by
  induction is generalizing s with
  | nil => unfold Machine.chooseField sendFieldPass; split <;> exact h
  | cons i rest ih =>
    unfold Machine.chooseField
    split
    · split
      · exact fun j => all_upd (f := fun p => { p with gatePending := false, orderSeq := p.orderSeq + 1 }) h
          (K.marked i (s.spout i) _ rfl (h i)) j
      · exact ih (all_upd h (K.marked i (s.spout i) _ rfl (h i)))
    · exact ih h

theorem serveLines (h : All P s) : All P (serveLines s) := by
  have h1 : All P (servePlant s) := by
    unfold servePlant
    split
    · exact h
    · split
      · exact h
      · split
        · exact h
        · unfold chooseMark
          split
          · next i k _ =>
            exact fun j => all_upd (f := fun p => { p with alerts := p.alerts.set k.index p.alerts[k.index].taken }) h
              (K.marked i (s.spout i) _ rfl (h i)) j
          · split
            · exact h
            · split
              · exact h
              · split
                · next i _ =>
                  exact fun j => all_upd (f := fun p => { p with reportDue := false }) h (K.marked i (s.spout i) _ rfl (h i)) j
                · exact h
  unfold Machine.serveLines serveField
  split
  · exact h1
  · exact K.chooseField _ h1

theorem joinWaiters (hs : (s.spout i).ctl.state = .armed) (h : All P s) : All P (joinWaiters i s) :=
  by
    unfold Machine.joinWaiters Machine.enter
    rw [upd_upd]
    exact all_upd h (K.enterAwait i _ hs (h i))

theorem joinAll (is : List SpoutId) (hn : is.Nodup) (hs : ∀ i ∈ is, (s.spout i).ctl.state = .armed) (h : All P s) :
    All P (is.foldl (fun u i => Machine.joinWaiters i u) s) := by
  induction is generalizing s with
  | nil => exact h
  | cons i rest ih =>
    rw [List.nodup_cons] at hn
    refine ih hn.2 (fun j hj => ?_) (K.joinWaiters (hs i (by simp)) h)
    have : j ≠ i := fun e => hn.1 (e ▸ hj)
    have e : (Machine.joinWaiters i s).spout j = s.spout j := by
      simp [Machine.joinWaiters, Machine.enter, spout_upd_ne _ _ this]
    rw [e]; exact hs j (by simp [hj])

theorem clearSilent (h : All P s) : All P (clearSilent s) := by
  unfold Machine.clearSilent
  have h1 : All P { s with silent := false } := h
  dsimp only
  have hn : (spoutIds.filter ({ s with silent := false } : State).releasable).Nodup :=
    List.Nodup.filter _ (by decide)
  have hs : ∀ i ∈ spoutIds.filter ({ s with silent := false } : State).releasable,
      (({ s with silent := false } : State).spout i).ctl.state = .armed := by
    intro i hi
    have := (List.mem_filter.1 hi).2
    simp only [State.releasable, Bool.and_eq_true, beq_iff_eq] at this
    exact this.1
  revert hn hs
  generalize spoutIds.filter ({ s with silent := false } : State).releasable = is
  intro hn hs
  split
  · exact h1
  · exact K.grantDecision (K.joinAll _ hn hs h1)

theorem noteAccepted (h : All P s) : All P (noteAccepted s) := by
  unfold Machine.noteAccepted
  dsimp only
  split
  · exact K.clearSilent h
  · exact h

theorem inFreeOrder {α : Type} (act : α → State → State) (ha : ∀ x u, All P u → All P (act x u)) (n : Nat) (xs : List α)
    (h : All P s) : All P (inFreeOrder act n xs s) := by
  induction n generalizing s xs with
  | zero => exact h
  | succ n ih =>
    unfold Machine.inFreeOrder
    split
    · exact h
    · exact ha _ _ h
    · exact ih _ (ha _ _ h)

theorem expireSilence (h : All P s) : All P (expireSilence s) := by
  unfold Machine.expireSilence
  refine K.inFreeOrder _ (fun i u hu => ?_) _ _ h
  split
  · next hh =>
    refine K.enterHeld _ ?_ hu
    unfold State.silenceHolds at hh
    split at hh <;> simp_all [SpoutState.gateOpen]
  · exact hu

end Keeps

end Sys2Proof.Machine
end

