-- ==== Sys2Proof/Laws/KeepStep.lean ====
section
/-! SUPPORT. The second half of the induction of Keep.lean: the requests, the conditions, the ports, every command and every
step. -/

set_option Elab.async false

namespace Sys2Proof.Machine

/-- A point stored within 20,000 fu leaves every point within it. -/
theorem setPoint_le {v : Vector Nat 17} {i x k : Nat} (h : v.getD k 0 ≤ 20000) (hx : x ≤ 20000) :
    (v.setIfInBounds i x).getD k 0 ≤ 20000 := by
  by_cases hl : k < 17
  · have e : ∀ w : Vector Nat 17, w.getD k 0 = w[k] := fun w => by simp [Vector.getD, Array.getD, hl]
    rw [e] at h ⊢
    rw [Vector.getElem_setIfInBounds]
    split
    · exact hx
    · exact h
  · simp [Vector.getD, Array.getD, hl]

namespace Keeps

variable {P : SpoutId → Spout → Prop} {s t : State} {i : SpoutId} (K : Keeps s P)
include K

/-! ### The requests, on the state the command acts on -/

theorem setDevice (q : DeviceParam) (v : Nat) (h : All P s) : All P (setDeviceParam q v s) := by
  unfold setDeviceParam
  split
  · exact h
  · split
    · exact K.grantDecision (s := { s with grantCount := v }) h
    · exact h

theorem setParamAct (ps : List Byte) (h : All P s) : All P (setParamAct ps s).state := by
  unfold Machine.setParamAct
  split
  · exact h
  · split
    · unfold setDeviceAct
      split
      · exact h
      · exact K.setDevice _ _ h
    · split
      · exact h
      · next i _ =>
        unfold setSpoutAct
        split
        · exact h
        · next q _ =>
          split
          · exact h
          · next hc =>
            refine all_upd h (K.setParam i q _ (fun hf => ?_) (h i))
            cases e : (s.spout i).ctl.state.compartmentOpen with
            | false => rfl
            | true => exact absurd ⟨hf, e⟩ hc

theorem getParamAct (ps : List Byte) (h : All P s) : All P (getParamAct ps s).state := by
  unfold Machine.getParamAct
  split
  · exact h
  · split
    · split <;> exact h
    · split
      · exact h
      · split <;> exact h

theorem countersAct (ps : List Byte) (h : All P s) : All P (countersAct ps s).state := by
  unfold Machine.countersAct
  dsimp only
  split
  · exact h
  · have : ∀ (ls : List LaneId) (u : State), All P u →
        All P (ls.foldl (fun t l => t.updLane l Lane.clearCounters) u) := by
      intro ls
      induction ls with
      | nil => exact fun u hu => hu
      | cons l rest ih => exact fun u hu => ih _ hu
    exact this _ _ h

theorem openWindowAct (ps : List Byte) (h : All P s) : All P (openWindowAct ps s).state := by
  unfold Machine.openWindowAct
  split
  · exact h
  · split
    · exact h
    · split
      · exact h
      · split <;> exact h

omit K in
/-- R22, R27: a write keeps every point of a bank within 20,000 fu. -/
theorem writeFrom_le (cursor : Nat) (ps : List Byte)
    (h : ∀ k, ((s.spout s.window.spout).curve.points s.window.bank).getD k 0 ≤ 20000) (k : Nat) :
    (writeFrom cursor ps s).points.getD k 0 ≤ 20000 := by
  have step : ∀ (last : Nat) (vs : List Nat) (w : Writing), (∀ k, w.points.getD k 0 ≤ 20000) →
      ∀ k, (vs.foldl (Writing.take last) w).points.getD k 0 ≤ 20000 := by
    intro last vs
    induction vs with
    | nil => exact fun w hw => hw
    | cons v rest ih =>
      intro w hw
      refine ih _ (fun k => ?_)
      unfold Writing.take
      split
      · exact setPoint_le (hw k) (Nat.min_le_left _ _)
      · exact hw k
  exact step _ _ _ h k

theorem writeAct (cursor : Nat) (ps : List Byte) (h : All P s) : All P (writeAct cursor ps s).state := by
  unfold Machine.writeAct
  split
  · exact h
  · split
    · exact h
    · split
      · exact h
      · next hb =>
        show All P (afterWrite (writeFrom cursor ps s) s)
        unfold afterWrite
        dsimp only
        split
        · exact h
        · exact all_upd (s := { s with window := { s.window with cursor := (writeFrom cursor ps s).cursor } })
            (f := fun p => { p with curve := p.curve.written s.window.bank (writeFrom cursor ps s).points }) h
            (K.written s.window.spout s.window.bank _ (by simpa using hb) (fun hv => writeFrom_le _ ps hv)
              (h s.window.spout))

theorem readAct (cursor : Nat) (ps : List Byte) (h : All P s) : All P (readAct cursor ps s).state := by
  unfold Machine.readAct
  split
  · exact h
  · split <;> exact h

theorem activateAct (ps : List Byte) (h : All P s) : All P (activateAct ps s).state := by
  unfold Machine.activateAct
  split
  · exact h
  · split
    · exact h
    · next i _ =>
      have hc : ∀ j, (closeWindow i s).spout j = s.spout j := by
        intro j; unfold closeWindow; split <;> rfl
      have h1 : All P (closeWindow i s) := fun j => by rw [hc]; exact h j
      unfold activateSpout
      dsimp only
      split
      · exact h1
      · next he =>
        split
        · exact all_upd h1 (by rw [hc]; exact K.failSwitch i (by simpa using he) (h i))
        · next hf =>
          split
          · next ho => exact all_upd h1 (by rw [hc]; exact K.deferSwitch i hf ho (h i))
          · next ho => exact all_upd h1 (by rw [hc]; exact K.switchNow i hf (by simpa using ho) (h i))

theorem mapLaneAct (ps : List Byte) (h : All P s) : All P (mapLaneAct ps s).state := by
  unfold Machine.mapLaneAct
  split
  · exact h
  · split
    · exact h
    · next i _ =>
      split
      · split
        · unfold mapLaneChecked
          split
          · exact h
          · next hp =>
            split
            · exact h
            · split
              · exact h
              · show All P (mapLane _ _ _ _ s)
                unfold mapLane
                dsimp only
                split
                · exact all_upd (s := s.setLane _ _) h (K.mapForce i (not_not.1 hp) (h i))
                · exact h
        · exact h
      · exact h

theorem unmapLaneAct (ps : List Byte) (h : All P s) : All P (unmapLaneAct ps s).state := by
  unfold Machine.unmapLaneAct
  split
  · exact h
  · split
    · exact h
    · split
      · exact h
      · next e _ =>
        split
        · exact h
        · show All P (unmapLane _ _ s)
          unfold unmapLane
          dsimp only
          split
          · exact all_upd (s := s.setLane _ _) h (K.marked e.spout (s.spout e.spout) _ rfl (h e.spout))
          · exact h

theorem setChainAct (ps : List Byte) (h : All P s) : All P (setChainAct ps s).state := by
  unfold Machine.setChainAct
  dsimp only
  split <;> exact h

theorem enqueueAct (ps : List Byte) (h : All P s) : All P (enqueueAct ps s).state := by
  unfold Machine.enqueueAct
  split
  · exact h
  · split
    · exact h
    · next i _ =>
      split
      · exact h
      · next hc =>
        unfold enqueueChecked
        dsimp only
        split
        · exact h
        · next h1 =>
          split
          · exact h
          · next h2 =>
            split
            · exact h
            · next h3 =>
              split
              · exact h
              · next h4 =>
                simp only [enqueueMalformed, Bool.or_eq_true, decide_eq_true_eq, not_or, not_lt] at hc
                have htag : 1 ≤ word16At ps 1 := by
                  have := hc.1.2
                  simp only [enqueueTag, beq_iff_eq] at this
                  split at this <;> omega
                refine all_upd h (K.join i ps (fun hp => ?_) (by simpa using h2) (by omega) (by omega)
                  htag hc.1.1.1 hc.1.1.2 (h i))
                cases e : s.configured i with
                | true => rfl
                | false => exact absurd ⟨hp, by simp [e]⟩ h1

theorem cancelAct (ps : List Byte) (h : All P s) : All P (cancelAct ps s).state := by
  unfold Machine.cancelAct
  split
  · exact h
  · split
    · exact h
    · next i _ =>
      unfold cancelSpout
      dsimp only
      split
      · exact h
      · split
        · next hh =>
          split
          · next q hq => exact all_upd h (K.cancelHead i _ q hh hq (h i))
          · exact h
        · next hh => exact all_upd h (K.removeOrder i _ (by simpa using hh) (h i))

theorem resultsAct (ps : List Byte) (h : All P s) : All P (resultsAct ps s).state := by
  unfold Machine.resultsAct
  split
  · exact h
  · split
    · exact h
    · dsimp only; split <;> exact h

theorem proceed (h : All P s) : All P (proceed i s).1 := by
  unfold Machine.proceed
  split
  · next e =>
    split
    · exact all_upd h (K.markProceed i (.inl e) (h i))
    · exact K.openReady' e h
  · next e =>
    unfold proceedZeroing
    split
    · exact all_upd h (K.markProceed i (.inr e) (h i))
    · next hst => exact K.openZeroing' e hst rfl h
    · next hst => exact K.openZeroing' e hst rfl h
    · exact h
    · exact h
  all_goals exact h

theorem abortWaiting (hs : (s.spout i).ctl.state = .armed ∨ (s.spout i).ctl.state = .awaitAir) (h : All P s) :
    All P (abortWaiting i s) :=
  K.spares h (release_spares s i _ _) (by
    show P i (((releaseAir i (s.upd i Spout.markAborted)).upd i Spout.endAborted).spout i)
    rw [release_spout]; exact K.endAborted i hs (h i))

theorem abortLoading' (hs : (s.spout i).ctl.state.gateOpen = true ∨ (s.spout i).ctl.state = .held) (h : All P s) :
    All P (Machine.abortLoading i s) := by
  have e := spares_trans (spares_upd s i Spout.markAborted) (enterTailing_spares _ i .abort)
  refine K.spares h e ?_
  show P i ((Machine.enterTailing .abort i (s.upd i Spout.markAborted)).spout i)
  rw [enterTailing_spout, spout_upd_same]
  exact K.abortLoading i hs (h i)

theorem abort (h : All P s) : All P (abort i s).1 := by
  unfold Machine.abort
  split
  case h_1 e => exact K.abortWaiting (.inl e) h
  case h_2 e => exact K.abortWaiting (.inr e) h
  case h_3 e => exact K.abortLoading' (.inl (by rw [e]; rfl)) h
  case h_4 e => exact K.abortLoading' (.inl (by rw [e]; rfl)) h
  case h_5 e => exact K.abortLoading' (.inr e) h
  case h_6 e =>
    split
    · exact h
    · exact all_upd h (K.abortTail i e (h i))
  case h_7 e => exact all_upd h (K.abortReady i e (h i))
  all_goals exact h

theorem hold (h : All P s) : All P (hold i s).1 := by
  unfold Machine.hold
  split
  case h_1 e => exact K.enterHeld _ (.inl e) h
  case h_2 e => exact K.enterHeld _ (.inr (.inl e)) h
  case h_3 e => exact K.enterHeld _ (.inr (.inr (by rw [e]; rfl))) h
  case h_4 e => exact K.enterHeld _ (.inr (.inr (by rw [e]; rfl))) h
  all_goals exact h

theorem resume (h : All P s) : All P (resume i s).1 := by
  unfold Machine.resume
  split
  · next e =>
    split
    · exact h
    · show All P (Machine.resumeHeld i s)
      have hs : ((s.upd i Spout.leaveHeld).spout i).ctl.state = .awaitAir := by simp [Spout.leaveHeld]
      unfold Machine.resumeHeld
      dsimp only
      split
      · unfold Machine.probeCondition
        rw [hs]
        refine K.spares h (release_spares s i Spout.leaveHeld (Spout.enter .armed)) ?_
        rw [release_spout]
        exact K.resumeArmed i e (h i)
      · split
        · unfold Machine.bayCondition
          rw [hs]
          refine K.spares h (spares_trans (spares_upd s i _) (enterHeld_spares _ i .bay)) ?_
          rw [enterHeld_spout, spout_upd_same]
          exact K.resumeHeld i e (h i)
        · exact K.askForAir (K.resumeWaits i e (h i)) h
  · exact h

theorem park' (h : All P s) : All P (Machine.park i s).1 := by
  unfold Machine.park
  split
  · next e => exact all_upd h (K.park i (.inl e) (h i))
  · exact h
  · next e =>
    split
    · exact h
    · next hst =>
      refine all_upd h (K.park i (.inr ⟨e, fun st hs => ?_⟩) (h i))
      rw [hst] at hs; cases hs; rfl
    · next hst =>
      refine all_upd h (K.park i (.inr ⟨e, fun st hs => ?_⟩) (h i))
      rw [hst] at hs; cases hs
  all_goals exact h

theorem unpark' (h : All P s) : All P (Machine.unpark i s).1 := by
  unfold Machine.unpark
  split
  · next e =>
    split
    · next hc => exact all_upd h (K.unpark i e hc (h i))
    · exact h
  · exact h

theorem clear (h : All P s) : All P (clear i s).1 := by
  unfold Machine.clear
  split
  · next e =>
    split
    · exact h
    · exact all_upd h (K.clearFault i e (h i))
  · exact h

theorem zeroNow' (h : All P s) : All P (Machine.zeroNow i s).1 := by
  unfold Machine.zeroNow
  split
  case h_1 e => exact all_upd h (K.zeroNow i (.inl e) (h i))
  case h_2 e => exact all_upd h (K.zeroNow i (.inr e) (h i))
  all_goals exact h

theorem onSpout (ps : List Byte) (act : SpoutId → State → State × Status) (ha : ∀ i, All P (act i s).1) (h : All P s) :
    All P (onSpout ps act s).state := by
  unfold Machine.onSpout
  split
  · exact h
  · split
    · exact h
    · exact ha _

theorem handler (k : RequestKind) (ps : List Byte) (h : All P s) : All P (handler k ps s).state := by
  cases k with
  | ident => exact h
  | assign =>
    show All P (assignAct ps s).state
    unfold assignAct; split <;> exact h
  | keepalive => exact h
  | setParam => exact K.setParamAct ps h
  | getParam => exact K.getParamAct ps h
  | status =>
    show All P (statusAct ps s).state
    unfold statusAct
    split
    · exact h
    · split <;> exact h
  | counters => exact K.countersAct ps h
  | restart =>
    show All P (restartAct ps s).state
    unfold restartAct; split <;> exact h
  | openWindow => exact K.openWindowAct ps h
  | writePoints => exact K.writeAct _ ps h
  | writeMore => exact K.writeAct _ ps h
  | readPoints => exact K.readAct _ ps h
  | readMore => exact K.readAct _ ps h
  | activate => exact K.activateAct ps h
  | mapLane => exact K.mapLaneAct ps h
  | unmapLane => exact K.unmapLaneAct ps h
  | setChain => exact K.setChainAct ps h
  | enqueue => exact K.enqueueAct ps h
  | cancel => exact K.cancelAct ps h
  | results => exact K.resultsAct ps h
  | proceed => exact K.onSpout ps _ (fun _ => K.proceed h) h
  | abort => exact K.onSpout ps _ (fun _ => K.abort h) h
  | hold => exact K.onSpout ps _ (fun _ => K.hold h) h
  | resume => exact K.onSpout ps _ (fun _ => K.resume h) h
  | park => exact K.onSpout ps _ (fun _ => K.park' h) h
  | unpark => exact K.onSpout ps _ (fun _ => K.unpark' h) h
  | clear => exact K.onSpout ps _ (fun _ => K.clear h) h
  | zeroNow => exact K.onSpout ps _ (fun _ => K.zeroNow' h) h

theorem perform (code : Byte) (ps : List Byte) (h : All P s) : All P (perform code ps s).state := by
  unfold Machine.perform
  split
  · exact K.handler _ ps h
  · exact h

theorem reachHandler (number code : Byte) (act : State → Act) (ha : All P (act s).state) (h : All P s) :
    All P (reachHandler number code act s) := by
  unfold Machine.reachHandler
  split
  · exact h
  · split
    · unfold acceptRequest placeResponse
      exact K.noteAccepted ha
    · exact h

theorem requestCourse (hd : ReqHeader) (code : Byte) (ps : List Byte) (act : State → Act) (ha : All P (act s).state)
    (h : All P s) : All P (requestCourse hd code ps act s) := by
  unfold Machine.requestCourse
  split
  · exact h
  · split
    · exact K.passToField _ h
    · split
      · exact h
      · exact K.reachHandler _ _ _ ha h

theorem pPortRun (run : Run) (h : All P s) : All P (pPortRun run s) := by
  unfold Machine.pPortRun
  split
  · exact h
  · split
    · split
      · unfold shortRequestRun
        split
        · exact h
        · exact K.passToField _ h
      · unfold requestRun
        split
        · exact K.passToField _ h
        · split
          · exact h
          · split
            · exact h
            · exact K.reachHandler _ _ _ (K.perform _ _ h) h
    · exact K.passToField _ h

/-! ### Resets, commands and steps -/

theorem restartNow (h : All P t) : All P (restartNow t) := by
  intro j
  show P j ((t.spouts.map Spout.restart).get j)
  rw [PerSpout.get_map]
  exact K.restart j _ (h j)

theorem powerOn : All P (powerOn t) := by
  intro j
  show P j ((PerSpout.all Spout.reset).get j)
  rw [PerSpout.get_all]
  exact K.reset j

theorem finish {u : State} (h : All P u) (he : finish u = .next t) : All P t := by
  cases he
  exact K.serveLines h

theorem request (hd : ReqHeader) (k : RequestKind) (ps : List Byte) (h : All P s)
    (he : Machine.finish (Machine.requestCourse hd k.code ps (Machine.handler k ps) s) = .next t) : All P t :=
  K.finish (K.requestCourse _ _ _ _ (K.handler k ps h) h) he

/-- Every command keeps the property. -/
theorem exec (c : Instr) (h : All P s) (he : exec c s = .next t) : All P t := by
  cases c with
  | powerOnReset => exact K.finish K.powerOn he
  | fPortFrame run => exact K.finish (K.fPortRun run h) he
  | sampleLoss sp =>
    refine K.finish ?_ he
    split
    · split
      · exact K.missingSample _ h
      · exact h
    · exact h
  | starvation sp => exact K.finish (K.starve h) he
  | laneStale l => exact K.finish (K.laneGoesStale l h) he
  | duePoint sp =>
    refine K.finish ?_ he
    split
    · exact K.duePoint h
    · exact h
  | stepComplete sp raw =>
    refine K.finish ?_ he
    split
    · next hc => exact K.completeStep raw.isLt hc h
    · exact h
  | retryWaitEnd sp =>
    refine K.finish ?_ he
    split
    · exact K.endRetryWait h
    · exact h
  | pacingPoint sp =>
    refine K.finish ?_ he
    split
    · exact K.upd (K.pace sp) h
    · exact h
  | reportIntervalExpiry sp =>
    refine K.finish ?_ he
    split
    · exact K.upd (K.reportExpires sp) h
    · exact h
  | floodDrop sp =>
    refine K.finish ?_ he
    split
    · next hc =>
      simp only [Spout.floodDropReached, Bool.and_eq_true, beq_iff_eq] at hc
      exact all_upd h (K.floodDrop sp _ hc.1.1 (h sp))
    · exact h
  | floodClosure sp =>
    refine K.finish ?_ he
    split
    · next hc =>
      simp only [Spout.floodClosureReached, Bool.and_eq_true, beq_iff_eq] at hc
      exact K.floodClosure hc.1.1 h
    · exact h
  | gateStuck sp =>
    refine K.finish ?_ he
    split
    · exact K.enterFault _ h
    · exact h
  | airFail sp =>
    refine K.finish ?_ he
    split
    · exact K.enterFault _ h
    · exact h
  | airLost sp =>
    refine K.finish ?_ he
    split
    · next hc =>
      simp only [State.airLostReached, Bool.and_eq_true] at hc
      exact K.enterHeld _ (.inr (.inr hc.1.1)) h
    · exact h
  | tailSettled sp =>
    refine K.finish ?_ he
    split
    · next hc =>
      simp only [Spout.settleReached, Bool.and_eq_true, beq_iff_eq] at hc
      exact all_upd h (K.endTail sp _ _ hc.1.1 (h sp))
    · exact h
  | tailTimeout sp =>
    refine K.finish ?_ he
    split
    · next hc =>
      simp only [Spout.timeoutReached, Bool.and_eq_true, beq_iff_eq] at hc
      exact all_upd h (K.endTail sp _ _ hc.1.1 (h sp))
    · exact h
  | silenceExpiry =>
    refine K.finish ?_ he
    split
    · exact K.expireSilence h
    · exact h
  | pPortFrame run => exact K.finish (K.pPortRun run h) he
  | unknownRequest hd code ps => exact K.finish (K.requestCourse _ _ _ _ (K.perform code ps h) h) he
  | ident hd ps => exact K.request hd .ident ps h he
  | assign hd ps => exact K.request hd .assign ps h he
  | keepalive hd ps => exact K.request hd .keepalive ps h he
  | setParam hd ps => exact K.request hd .setParam ps h he
  | getParam hd ps => exact K.request hd .getParam ps h he
  | status hd ps => exact K.request hd .status ps h he
  | counters hd ps => exact K.request hd .counters ps h he
  | restart hd ps => exact K.request hd .restart ps h he
  | openWindow hd ps => exact K.request hd .openWindow ps h he
  | writePoints hd ps => exact K.request hd .writePoints ps h he
  | writeMore hd ps => exact K.request hd .writeMore ps h he
  | readPoints hd ps => exact K.request hd .readPoints ps h he
  | readMore hd ps => exact K.request hd .readMore ps h he
  | activate hd ps => exact K.request hd .activate ps h he
  | mapLane hd ps => exact K.request hd .mapLane ps h he
  | unmapLane hd ps => exact K.request hd .unmapLane ps h he
  | setChain hd ps => exact K.request hd .setChain ps h he
  | enqueue hd ps => exact K.request hd .enqueue ps h he
  | cancel hd ps => exact K.request hd .cancel ps h he
  | results hd ps => exact K.request hd .results ps h he
  | proceed hd ps => exact K.request hd .proceed ps h he
  | abort hd ps => exact K.request hd .abort ps h he
  | hold hd ps => exact K.request hd .hold ps h he
  | resume hd ps => exact K.request hd .resume ps h he
  | park hd ps => exact K.request hd .park ps h he
  | unpark hd ps => exact K.request hd .unpark ps h he
  | clear hd ps => exact K.request hd .clear ps h he
  | zeroNow hd ps => exact K.request hd .zeroNow ps h he
  | pPortLineFree =>
    refine K.finish ?_ he
    unfold endPlantFrame
    split
    · exact K.restartNow h
    · exact h
    · exact h
  | fPortLineFree => exact K.finish (u := { s with fieldLine := none }) h he

/-- A passing millisecond keeps the property. -/
theorem tick (h : All P s) (he : tick s = .next t) : All P t := by
  refine K.finish (K.inFreeOrder (s := s.older) _ (fun x u hu => ?_) _ _ h) he
  unfold expire
  split
  · unfold expireLane
    split
    · exact hu
    · split
      · exact K.starve hu
      all_goals exact K.laneGoesStale _ hu
  · split
    · exact K.expireSilence hu
    · exact hu

end Keeps

/-- Every step keeps a property of single spouts that every change of a spout's record keeps. -/
theorem step_keeps {P : SpoutId → Spout → Prop} {s t : State} (K : ∀ u, Keeps u P) (h : All P s)
    (he : step s = .next t) : All P t := by
  unfold step at he
  split at he
  · next c rest _ => exact (K { s with pending := rest }).exec c h he
  · exact (K s).tick h he

end Sys2Proof.Machine
end

