-- ==== Sys2Proof/Laws/Operands.lean ====
section
/-! SUPPORT. Operand forms: fields written and read back, spout and lane fields, and clamping. -/

set_option Elab.async false

namespace Sys2Proof.Machine

@[simp] theorem byte_toNat (b : Byte) : byte b.toNat = b := by simp [byte]

@[simp] theorem toNat_byte_spout (i : SpoutId) : (byte i.val).toNat = i.val := by
  have := i.isLt
  simp only [byte, BitVec.toNat_ofNat]
  omega

theorem byteAt_spout (i : SpoutId) (rest : List Byte) : byteAt (byte i.val :: rest) 0 = i.val := by simp [byteAt]

@[simp] theorem spoutOfField_val (i : SpoutId) : spoutOfField i.val = some i := by simp [spoutOfField]

theorem spoutOfField_none {n : Nat} (h : 3 < n) : spoutOfField n = none := by
  simp [spoutOfField, Nat.not_lt.mpr h]

@[simp] theorem laneOfField_val (l : LaneId) : laneOfField l.val = some l := by simp [laneOfField]

theorem val_of_laneOfField {n : Nat} {l : LaneId} (h : laneOfField n = some l) : l.val = n := by
  unfold laneOfField at h
  split at h
  · cases h; rfl
  · cases h

/-- R159: a two-byte field reads back. -/
theorem word16At_be16 (v : BitVec 16) (rest : List Byte) : word16At (be16 v.toNat ++ rest) 0 = v.toNat := by
  have := v.isLt
  simp only [word16At, byteAt, be16, byte]
  simp
  omega

/-- R159: a four-byte field reads back. -/
theorem word32At_be32 (v : BitVec 32) (a b : Byte) : word32At (a :: b :: be32 v.toNat) 2 = v.toNat := by
  have := v.isLt
  simp only [word32At, word16At, byteAt, be32, byte]
  simp
  omega

/-- spec/00_scope.md, "limited to". -/
theorem clamp_eq (lo hi n : Nat) (h : lo ≤ hi) : clamp lo hi n = max lo (min hi n) := by
  unfold clamp
  split
  · omega
  · split <;> omega

/-- Any code's alert kind is in the list of the nine. -/
theorem mem_alertKinds (k : AlertKind) : k ∈ alertKinds := by cases k <;> decide

end Sys2Proof.Machine
end

