-- ==== Sys2Proof/Laws/Requests.lean ====
section
/-! SUPPORT. What a request command comes to, said once for all twenty-eight requests: its course (R162, R167, R174, R184) around
its handler. -/

set_option Elab.async false

namespace Sys2Proof.Machine

variable {s : State} {h : ReqHeader}

/-- Every request command is the course of its frame around its handler. -/
theorem exec_request {c : Instr} {k : RequestKind} {ps : List Byte} (hc : c.request? = some (k, h, ps)) (s : State) :
    exec c s = finish (requestCourse h k.code ps (handler k ps) s) := by
  cases c <;> simp only [Instr.request?, Option.some.injEq, Prod.mk.injEq, reduceCtorEq] at hc <;>
    obtain ⟨rfl, rfl, rfl⟩ := hc <;> rfl

/-- R162, R167: a request that is taken acts, and its response is placed. -/
theorem requestCourse_taken {code : Byte} {ps : List Byte} (act : State → Act) (ht : s.takes h code)
    (hp : ps.length ≤ 32) : requestCourse h code ps act s = acceptRequest h.number code act s := by
  obtain ⟨ha, hr, hf⟩ := ht
  simp [requestCourse, reachHandler, ha, hr, hf, Nat.not_lt.mpr hp, Nat.not_lt.mpr (Nat.le_succ_of_le (Nat.le_succ_of_le hp))]

/-- R167, R170: what an accepted request leaves, when its handler's response is no RESTART's. -/
theorem acceptRequest_only {code : Byte} {act : State → Act} {u : State} {st : Status} {d : ReplyData}
    (ha : act s = Act.only u st d) :
    acceptRequest h.number code act s = (noteAccepted u).replied h code st (d.build (noteAccepted u)) := by
  simp [acceptRequest, placeResponse, ha, Act.only, State.replied, reply]

/-- A taken request whose handler gives `u`, `st` and `d` answers with them. -/
theorem answers_of {c : Instr} {k : RequestKind} {ps : List Byte} {u : State} {st : Status} {d : ReplyData}
    {data : State → List Byte} (hc : c.request? = some (k, h, ps)) (ht : s.takes h k.code) (hp : ps.length ≤ 32)
    (ha : handler k ps s = Act.only u st d) (hd : d.build = data) : s.answers c h k u st data := by
  simp only [State.answers, exec_request hc, finish, requestCourse_taken _ ht hp, acceptRequest_only ha, hd]

/-- A taken request of one spout whose effect is `u` and `st` answers with the spout's state (R57, R185). -/
theorem spout_answers {c : Instr} {k : RequestKind} {i : SpoutId} {act : SpoutId → State → State × Status} {u : State}
    {st : Status} (hc : c.request? = some (k, h, [byte i.val])) (ht : s.takes h k.code)
    (hk : handler k [byte i.val] s = onSpout [byte i.val] act s) (ha : act i s = (u, st)) :
    s.answers c h k u st (spoutReply i) :=
  answers_of hc ht (by simp) (d := .spoutState (some i)) (by rw [hk]; simp [onSpout, byteAt_spout, ha]) rfl

/-- Two changes of a spout that agree on its record are one change. -/
theorem upd_congr (s : State) (i : SpoutId) {f g : Spout → Spout} (h : f (s.spout i) = g (s.spout i)) :
    s.upd i f = s.upd i g := by
  refine state_ext rfl (fun j => ?_) rfl
  simp only [spout_upd, h]

end Sys2Proof.Machine
end

