-- ==== Sys2Proof/Tests/Slice0.lean ====
section
/-! SUPPORT. The model's own tests: the smoke of `Instr.wellFormed`, one step of every command with the value that the spec's
rules or worked examples give, and for each statement of the provers a state that meets its hypotheses. -/

set_option Elab.async false

namespace Sys2Proof.Tests

open Sys2Proof Sys2Proof.Machine

/-! ### Well-formedness -/

theorem test_wf_refuses_empty_run :
    (Instr.pPortFrame []).wellFormed = false ∧ (Instr.fPortFrame []).wellFormed = false := by decide

theorem test_wf_refuses_33_params : (Instr.hold ⟨3, 7⟩ (List.replicate 33 0)).wellFormed = false := by decide

theorem test_wf_refuses_known_code : (Instr.unknownRequest ⟨3, 7⟩ 0x42 []).wellFormed = false := by decide

theorem test_wf_takes_the_rest :
    (Instr.pPortFrame [0]).wellFormed = true ∧ (Instr.hold ⟨3, 7⟩ (List.replicate 32 0)).wellFormed = true ∧
      (Instr.unknownRequest ⟨3, 7⟩ 0x99 []).wellFormed = true ∧ Instr.powerOnReset.wellFormed = true := by decide

/-! ### Small states

`base` is an NB4 with address 3 and five lanes of spout 0: FORCE on 0 (forwarded), GATE on 1 at 0‰, AIR on 2 at 7000, PROBE on 3
at 0 and BAY on 4 at 1. `rig f` is `base` with spout 0 changed by `f`. -/

def hdr : ReqHeader := ⟨3, 7⟩

def force : Lane := Lane.mapped 0 .force true
def gate : Lane := Lane.mapped 0 .gate false
def air : Lane := { Lane.mapped 0 .air false with latest := 7000 }
def probe : Lane := Lane.mapped 0 .probe false
def bay : Lane := { Lane.mapped 0 .bay false with latest := 1 }

def withLanes (es : List Lane) : State :=
  { State.reset with lanes := Vector.ofFn fun k => es[k.val]? , address := 3 }

def base : State := withLanes [force, gate, air, probe, bay]

def rig (f : Spout → Spout) : State := base.upd 0 f

/-- The state that a command leaves. -/
def after (c : Instr) (s : State) : State :=
  match exec c s with
  | .next t => t
  | .fault _ => s
  | .refused _ => s

def first (c : Instr) (s : State) : Spout := (after c s).spout 0

/-- The bytes, without the CRC, of the frame in transmission toward the plant. -/
def sent (s : State) : Option Run := s.plantLine.map fun o => o.frame.dropLast

/-- The points of section 12.1, in bank B, active. -/
def risingCurve : CurveStore where
  bankA := Vector.replicate 17 0
  bankB := #v[0, 600, 1200, 1800, 2400, 3000, 3500, 4050, 4600, 5100, 5600, 6100, 6600, 7100, 7550, 8000, 8400]
  statusA := .standbyUnchecked
  statusB := .active
  selected := .b
  valid := true

def order (tag : Nat) (targets : List Nat) : Order := ⟨tag, targets, 900, none, 1, false⟩

/-- A spout in a state without a compartment, with these orders. -/
def resting (st : SpoutState) (orders : List Order) (p : Spout) : Spout :=
  { p with
    queue := orders
    curve := risingCurve
    zero := { p.zero with zero := 10200 }
    ctl := { p.ctl with state := st, faultKind := if st = .faulted then some .sampleLoss else none } }

/-- A spout with the only compartment, of 12,000 kg, of order 41 open. -/
def loading (st : SpoutState) (p : Spout) : Spout :=
  { p with
    queue := [{ order 41 [12000] with nextIndex := 2 }]
    curve := risingCurve
    place := if st.gateOpen then .holder else if st = .awaitAir then .waiter else .neither
    zero := { p.zero with zero := 10200 }
    ctl := { p.ctl with
      state := st
      openComp := some ⟨41, 1, 12000⟩
      resumePhase := if st = .fine then some .fine else some .coarse
      heldReason := if st = .held then some .command else none
      endReason := if st = .tailing then some .normal else none
      sentDemand := if st.gateOpen then 600 else 0 } }

/-- A spout in ZEROING, `taken` samples into a step of that kind and length with that sum. -/
def stepping (k : StepKind) (o : Origin) (taken length sum : Nat) (p : Spout) : Spout :=
  let q := resting .zeroing (if o = .ready then [order 41 [12000]] else []) p
  { q with zero := { q.zero with step := some ⟨k, o, taken, sum, length, 4000⟩ } }

/-! ### One step of every command

The expected values are those of the spec's worked examples, or follow by hand from the rule that is named. -/

/-- R159: an NB4 is unassigned after a power-on reset. -/
theorem test_power_on_reset : (after .powerOnReset base).address = 15 := by decide +kernel

/-- Section 12.2, one steady sample: raw 151,340 gives 5,005 fu. -/
theorem test_f_port_frame_flow :
    (first (.fPortFrame (sealFrame [0x10, 0, 1, 0x02, 0x4F, 0x2C]))
      (rig fun p => loading .coarse { p with par := { p.par with span := 4178 } })).chan.lastGood = 5005 := by
  decide +kernel

/-- Chapter 1, a gap across the sequence wrap: three fills of 5,005 and a sample of 4,980 fu. -/
theorem test_f_port_frame_gap :
    let p := first (.fPortFrame (sealFrame [0x10, 0, 2, 0x02, 0x4B, 0xF1]))
      (rig fun p => loading .coarse { p with
        par := { p.par with span := 4178 }
        chan := { p.chan with
          lastSeq := some 254, lastGood := 5005, window := List.replicate 8 5005, filtered := 5005
          acc := 1000000000, massG := 25000000 }
        ctl := { p.ctl with tau := 0 } })
    (p.chan.massG, p.chan.filtered, p.chan.lastGood) = (25000499, 5001, 4980) := by decide +kernel

/-- R7: the fifth missing sample of a run faults a loading spout. -/
theorem test_sample_loss :
    (first (.sampleLoss 0) (rig fun p => loading .held { p with chan := { p.chan with missingRun := 4 } })).ctl.faultKind =
      some .sampleLoss := by decide +kernel

/-- Chapter 4, a fault mid-order: silence on the FORCE lane faults the spout. -/
theorem test_starvation : (first (.starvation 0) (rig (loading .coarse))).ctl.state = .faulted := by decide +kernel

/-- Chapter 9, a bay that falls silent: HELD, reason BAY. -/
theorem test_lane_stale : (first (.laneStale 4) (rig (loading .coarse))).ctl.heldReason = some .bay := by decide +kernel

/-- Chapter 3, a set of four steps: the due point begins a step of 64 samples. -/
theorem test_due_point :
    (first (.duePoint 0) (rig fun p => resting .idle [] { p with
      par := { p.par with zeroInterval := 60 }
      zero := { p.zero with cadence := .z4, dueCount := 5999 } })).zero.step =
      some ⟨.normal, .idle, 0, 0, 64, 4000⟩ := by decide +kernel

/-- Chapter 3, a set of four steps: the set's candidate is 10,261. -/
theorem test_step_complete_set :
    (first (.stepComplete 0 10264) (rig fun p => stepping .normal .idle 63 64 646636 { p with
      zero := { p.zero with cadence := .z4, owed := 1, stepsDone := 3, partialSum := 1969856 } })).zero.zero =
      10261 := by decide +kernel

/-- Section 12.1: the make-up sum 2,611,245 gives 10,200. -/
theorem test_step_complete_makeup :
    (first (.stepComplete 0 10245) (rig fun p => stepping .makeup .idle 255 256 2601000 { p with
      zero := { p.zero with makeupOwed := true } })).zero.zero = 10200 := by decide +kernel

/-- Chapter 3, a set of four steps: the wait ends and the step begins again. -/
theorem test_retry_wait_end :
    (first (.retryWaitEnd 0) (rig fun p => resting .idle [] { p with
      zero := { p.zero with owed := 1, retryWait := some 1 } })).ctl.state = .zeroing := by decide +kernel

/-- Chapter 6, pacing point 18: ratio 990, gate demand 891, sent demand 800. -/
theorem test_pacing_point :
    let p := first (.pacingPoint 0) (rig fun p =>
      let q := loading .coarse { p with chan := { p.chan with filtered := 6250 } }
      { q with
        queue := [{ order 41 [12000] with nextIndex := 2, flowLimit := some 6000 }]
        ctl := { q.ctl with pacing := 7, gateDemand := 900, sentDemand := 760 } })
    (p.ctl.ratio, p.ctl.gateDemand, p.ctl.sentDemand) = (990, 891, 800) := by decide +kernel

/-- R169: an interval of 200 samples; the report of spout 0 goes out on the free line. -/
theorem test_report_interval_expiry :
    ((sent (after (.reportIntervalExpiry 0) (rig fun p => { p with reportCount := 199 }))).map (·.take 4)) =
      some [0x40, 3, 0, 0] := by decide +kernel

/-- A spout with a flood limit of 9,000 fu and this flow and flood run. -/
def flooded (st : SpoutState) (flow run : Nat) (p : Spout) : Spout :=
  let q := loading st { p with par := { p.par with floodLimit := 9000 }, chan := { p.chan with filtered := flow } }
  { q with ctl := { q.ctl with floodRun := run } }

/-- Chapter 6, a flood through both phases, sample s + 8. -/
theorem test_flood_drop :
    let p := first (.floodDrop 0) (rig (flooded .coarse 9480 7))
    (p.ctl.state, p.ctl.sentDemand) = (.fine, 250) := by decide +kernel

/-- The same, sample s + 551. -/
theorem test_flood_closure :
    (first (.floodClosure 0) (rig (flooded .fine 9480 399))).ctl.endReason = some .flood := by decide +kernel

/-- A spout whose GATE lane reads 180‰ with a stuck-gate run of 1199. -/
def jammed : State :=
  (rig fun p => let q := loading .tailing p; { q with ctl := { q.ctl with stuckRun := 1199 } }).setLane 1
    (some { gate with latest := 180 })

/-- Chapter 6, a gate that does not close. -/
theorem test_gate_stuck : (first (.gateStuck 0) jammed).ctl.faultKind = some .gateStuck := by decide +kernel

/-- A holder in AWAIT_AIR at this point of its pressure wait, with the AIR lane at 2,150. -/
def starvedOfAir (wait : Nat) : State :=
  (rig fun p =>
    let q := loading .awaitAir p
    { q with place := .holder, ctl := { q.ctl with pressureWait := some wait } }).setLane 2
    (some { air with latest := 2150 })

/-- Chapter 8, an air failure at 800 samples: the fault frees the grant. -/
theorem test_air_fail :
    let p := first (.airFail 0) (starvedOfAir 799)
    (p.ctl.faultKind, p.place) = (some .airFail, .neither) := by decide +kernel

/-- A spout in FINE with this air-lost run and the AIR lane at 2,150. -/
def losingAir (run : Nat) : State :=
  (rig fun p => let q := loading .fine p; { q with ctl := { q.ctl with airLostRun := run } }).setLane 2
    (some { air with latest := 2150 })

/-- R154: 200 samples of lost air hold the spout. -/
theorem test_air_lost : (first (.airLost 0) (losingAir 199)).ctl.heldReason = some .air := by decide +kernel

/-- A tail closed at 11,980,000 g and 2,000 fu, at this age and settle run, now at 12,006,800 g and this flow. -/
def tail (age run flow : Nat) : State :=
  rig fun p =>
    let q := loading .tailing { p with
      chan := { p.chan with acc := 480272000, massG := 12006800, filtered := flow } }
    { q with ctl := { q.ctl with
      massAtClose := 11980000, flowAtClose := 2000, tailAge := age, settleRun := run, duration := 9000 } }

/-- Chapter 5, learning in both directions: tau 400 becomes 434. -/
theorem test_tail_settled :
    let p := first (.tailSettled 0) (tail 690 79 0)
    (p.ctl.tau, p.ctl.state, p.ring.map (·.overshoot)) = (434, .idle, [6800]) := by decide +kernel

/-- Chapter 5: a tail that ends by its age carries TAIL_TIMEOUT and leaves tau at 400. -/
theorem test_tail_timeout :
    let p := first (.tailTimeout 0) (tail 3999 0 60)
    (p.ctl.tau, p.ring.map (·.tailTimeout)) = (400, [true]) := by decide +kernel

/-- Section 12.5: the expiry holds a spout in COARSE. -/
theorem test_silence_expiry :
    let t := after .silenceExpiry { rig (loading .coarse) with timer := some 999 }
    ((t.spout 0).ctl.heldReason, t.silent, t.timer) = (some .silence, true, none) := by decide +kernel

/-- R160: a run of three bytes is a framing error. -/
theorem test_p_port_frame : (after (.pPortFrame [1, 2, 3]) base).framingCount = ⟨1, false⟩ := by decide +kernel

/-- R175: UNKNOWN_REQUEST, no data. -/
theorem test_unknown_request :
    sent (after (.unknownRequest hdr 0x99 []) base) = some [0x31, 3, 7, 0x99, 29, 0] := by decide +kernel

/-- R177. -/
theorem test_ident :
    sent (after (.ident hdr []) base) = some [0x31, 3, 7, 1, 0, 8, 0x0B, 0x17, 0, 0x44, 1, 4, 3, 0] := by decide +kernel

/-- Section 12.1: ASSIGN(0) is answered from address 0. -/
theorem test_assign :
    let t := after (.assign ⟨15, 7⟩ [0]) { base with address := 15 }
    (t.address, sent t) = (0, some [0x31, 0, 7, 2, 0, 1, 0]) := by decide +kernel

/-- R170, R179: the flag clears, and the response shows that it was set. -/
theorem test_keepalive :
    let t := after (.keepalive hdr []) { base with silent := true }
    (t.silent, t.timer, sent t) = (false, some 0, some [0x31, 3, 7, 3, 0, 2, 3, 1]) := by decide +kernel

/-- Section 12.1: a span of 4,178. -/
theorem test_set_param : (first (.setParam hdr [0, 16, 0, 0, 0x10, 0x52]) base).par.span = 4178 := by decide +kernel

/-- R180: a grant count of 9 is stored as 4. -/
theorem test_set_param_clamps :
    let t := after (.setParam hdr [4, 2, 0, 0, 0, 9]) base
    (t.grantCount, (sent t).map (·.drop 4)) = (4, some [1, 6, 4, 2, 0, 0, 0, 4]) := by decide +kernel

/-- R182: tau, 400. -/
theorem test_get_param :
    (sent (after (.getParam hdr [0, 24]) base)).map (·.drop 4) = some [0, 6, 0, 24, 0, 0, 1, 144] := by decide +kernel

/-- R185: the state field of STATUS in COARSE is 6. -/
theorem test_status :
    (sent (after (.status hdr [0]) (rig (loading .coarse)))).map (fun f => (f.drop 4).take 4) =
      some [0, 27, 0, 6] := by decide +kernel

/-- Chapter 9, reading the counters: CRC 1, gap 3, duplicate 1. -/
theorem test_counters :
    let t := after (.counters hdr [0, 1])
      (base.setLane 0 (some { force with crc := ⟨1, false⟩, gap := ⟨3, false⟩, dup := ⟨1, false⟩ }))
    ((sent t).map (·.drop 10), t.lane 0) = (some [128, 1, 3, 1], some force) := by decide +kernel

/-- R184: restart is pending until the response has been sent. -/
theorem test_restart : (after (.restart hdr []) base).restartPending = true := by decide +kernel

/-- Chapter 2, loading a curve: the window stands open on bank B of spout 0. -/
theorem test_open_window :
    (after (.openWindow hdr [0, 1, 0, 16]) base).window = ⟨true, 0, .b, 0, 16, 0⟩ := by decide +kernel

def windowed (cursor : Nat) : State := { base with window := ⟨true, 0, .b, 0, 16, cursor⟩ }

/-- Chapter 2, loading a curve: six points are stored. -/
theorem test_write_points :
    let t := after (.writePoints hdr (be16 0 ++ be16 1100 ++ be16 2300 ++ be16 3400 ++ be16 4500 ++ be16 5700)) (windowed 0)
    (t.window.cursor, (t.spout 0).curve.bankB[5]) = (6, 5700) := by decide +kernel

/-- The same: five of the last six points are stored, 21,000 as 20,000. -/
theorem test_write_more :
    let t := after (.writeMore hdr (be16 13700 ++ be16 14800 ++ be16 16000 ++ be16 17100 ++ be16 21000 ++ be16 19000))
      (windowed 12)
    (t.window.cursor, (t.spout 0).curve.bankB[16], (sent t).map (·.drop 4)) = (17, 20000, some [1, 1, 5]) := by
  decide +kernel

/-- The same: READ_POINTS returns f[0] to f[5]. -/
theorem test_read_points :
    let t := after (.readPoints hdr []) { (rig (resting .idle [])) with window := ⟨true, 0, .b, 0, 16, 0⟩ }
    (t.window.cursor, (sent t).map fun f => (f.drop 6).drop 11) = (6, some (be16 3000)) := by decide +kernel

/-- The same: the last READ_MORE returns five points. -/
theorem test_read_more : (after (.readMore hdr []) (windowed 12)).window.cursor = 17 := by decide +kernel

/-- A spout whose bank A is active and whose standby bank B holds the curve of section 12.1. -/
def unchecked : CurveStore :=
  { risingCurve with bankA := risingCurve.bankB, statusA := .active, statusB := .standbyUnchecked, selected := .a }

/-- Section 12.1: ACTIVATE switches to bank B. -/
theorem test_activate :
    (first (.activate hdr [0]) (rig fun p => { p with curve := unchecked })).curve.selected = .b := by decide +kernel

/-- R24, R31: a bank of zeros fails at point 16. -/
theorem test_activate_zeros :
    (sent (after (.activate hdr [0]) base)).map (·.drop 4) = some [23, 3, 0, 16, 0] := by decide +kernel

/-- Section 12.1: a FORCE mapping makes make-up owed. -/
theorem test_map_lane :
    (after (.mapLane hdr [8, 2, 0, 0]) base).spout 2 |>.zero.makeupOwed := by decide +kernel

theorem test_unmap_lane : (after (.unmapLane hdr [4]) base).lane 4 = none := by decide +kernel

/-- R150: with the GATE lane goes the pending gate order, though the field-bound line is busy. -/
theorem test_unmap_gate_lane :
    (first (.unmapLane hdr [1]) { (rig fun p => { p with gatePending := true }) with
      fieldLine := some ⟨[1], false⟩ }).gatePending = false := by decide +kernel

/-- Section 12.4. -/
theorem test_set_chain : (after (.setChain hdr [1, 2, 0, 3]) base).chain = [1, 2, 0, 3] := by decide +kernel

/-- Chapter 7, a full pool: a target above 60,000, a cap of 1200 and a limit of 300 are stored as 60,000, 1000 and 500
(the example's 70,000 does not fit the two bytes of R185: notes/assumptions/27.md). -/
theorem test_enqueue :
    let p := first (.enqueue hdr ([0] ++ be16 7 ++ [1] ++ be16 65535 ++ be16 1200 ++ be16 300))
      (rig (resting .idle []))
    (p.ctl.state, p.queue) = (.ready, [⟨7, [60000], 1000, some 500, 1, false⟩]) := by decide +kernel

/-- Chapter 7, a full pool: the head order of a READY spout goes, and the next one takes its place. -/
theorem test_cancel :
    let p := first (.cancel hdr [0, 0, 40]) (rig (resting .ready [order 40 [12000], order 41 [12000]]))
    (p.ctl.state, p.queue.map (·.tag)) = (.ready, [41]) := by decide +kernel

/-- A result with this number. -/
def numbered (n : Byte) : Result :=
  ⟨n, 41, 1, 12000, 12006800, 6800, .normal, false, false, false, false, false, false, 434, 9000⟩

/-- Chapter 7, reading the ring: four records from the newest, 18; two are returned and two remain. -/
theorem test_results :
    (sent (after (.results hdr [0, 0, 4]) (rig fun p =>
      { p with ring := [11, 12, 13, 14, 15, 16, 17, 18].map numbered, resultNumber := 19 }))).map
      (fun f => (f.drop 6).take 2) = some [0x82, 18] := by decide +kernel

/-- Section 12.2: PROCEED opens compartment 1 and, the air being at the threshold, the spout stands in COARSE at 80. -/
theorem test_proceed :
    let p := first (.proceed hdr [0]) (rig (resting .ready [order 41 [12000]]))
    (p.ctl.state, p.ctl.sentDemand, p.place) = (.coarse, 80, .holder) := by decide +kernel

/-- Chapter 4, hold, bay withdrawal and abort: an ABORT in FINE. -/
theorem test_abort : (first (.abort hdr [0]) (rig (loading .fine))).ctl.state = .tailing := by decide +kernel

/-- The same: a HOLD in FINE. -/
theorem test_hold :
    let t := after (.hold hdr [0]) (rig (loading .fine))
    ((t.spout 0).ctl.heldReason, sent t) = (some .command, some [0x31, 3, 7, 0x42, 0, 2, 0, 9]) := by decide +kernel

/-- Chapter 9: a RESUME with a free grant and the air at the threshold. -/
theorem test_resume : (first (.resume hdr [0]) (rig (loading .held))).ctl.state = .coarse := by decide +kernel

theorem test_park : (first (.park hdr [0]) (rig (resting .idle []))).ctl.state = .parked := by decide +kernel

/-- Section 12.1: UNPARK begins a MAKEUP step of 256 samples with origin IDLE. -/
theorem test_unpark :
    (first (.unpark hdr [0]) (rig (resting .parked []))).zero.step = some ⟨.makeup, .idle, 0, 0, 256, 4000⟩ := by
  decide +kernel

/-- Chapter 4, a fault mid-order: CLEAR moves on to READY. -/
theorem test_clear :
    (first (.clear hdr [0]) (rig (resting .faulted [{ order 9 [100, 100, 100] with nextIndex := 3 }]))).ctl.state =
      .ready := by decide +kernel

/-- R50. -/
theorem test_zero_now :
    (first (.zeroNow hdr [0]) (rig (resting .idle []))).zero.step = some ⟨.zeroNow, .idle, 0, 0, 256, 4000⟩ := by
  decide +kernel

/-- Chapter 10, a busy line: the waiting pass-through frame goes before the response. -/
theorem test_p_port_line_free :
    let t := after .pPortLineFree { base with
      plantLine := some ⟨[1], false⟩, plantFifo := [[2, 2, 2, 2]], respFifo := [⟨[3], false⟩] }
    t.plantLine = some ⟨[2, 2, 2, 2], false⟩ := by decide +kernel

/-- R107, R166: a gate order goes before a pass-through frame. -/
theorem test_f_port_line_free :
    let t := after .fPortLineFree { (rig fun p => { p with gatePending := true }) with
      fieldLine := some ⟨[1], false⟩, fieldFifo := [[2, 2, 2, 2]] }
    t.fieldLine.map (·.frame.dropLast) = some [0x20, 1, 0, 0, 0, 0] := by decide +kernel

/-! ### States that meet the statements' hypotheses

For each statement with hypotheses, states and operands at which every clause's hypotheses hold, at the ends of their ranges
where a clause has a range. A hypothesis about every mapped lane, or about the lane of a role, is shown as `Option.all`
or as an equation for that lane. -/

/-- Spout 0 with its control record changed. -/
def ctl (f : Control → Control) (p : Spout) : Spout := { p with ctl := f p.ctl }

/-- Spout 0 with its zero tracker changed. -/
def zeroed (f : ZeroTracker → ZeroTracker) (p : Spout) : Spout := { p with zero := f p.zero }

/-- Spout 0 with its channel changed. -/
def channelled (f : Channel → Channel) (p : Spout) : Spout := { p with chan := f p.chan }

/-- A spout in COARSE with its lanes, grant and order, and a HOLD for it waiting. -/
def busy : State := { rig (loading .coarse) with pending := [.hold hdr [0]] }

theorem witness_StepRunsFrontCommand : busy.pending = .hold hdr [0] :: [] := by decide +kernel

theorem witness_IdleMillisecond :
    (({ base with timer := some 998 } : State).pending = [] ∧
      (∀ l, (base.lane l).all (fun e => e.age + 1 != e.role.limit)) ∧ 998 + 1 < 125 * 2 ^ base.silenceK ∧
      125 * 2 ^ base.silenceK ≤ 999 + 1) ∧
    (let s := base.setLane 0 (some { force with age := 49 })
     (s.lane 0).all (fun e => e.age + 1 == e.role.limit && e.role == .force) ∧
       ∀ l, l ≠ 0 → (s.lane l).all fun e => e.age + 1 != e.role.limit) ∧
    (let s := base.setLane 2 (some { air with age := 199 })
     (s.lane 2).all (fun e => e.age + 1 == e.role.limit && e.role != .force) ∧
       ∀ l, l ≠ 2 → (s.lane l).all fun e => e.age + 1 != e.role.limit) ∧
    base.lane 5 = none ∧ base.timer = none := by decide +kernel

theorem witness_RequestIsItsFrame : (Instr.hold hdr [0]).request? = some (.hold, hdr, [0]) := rfl

theorem busy_steps : ∃ t, step busy = .next t ∧ (t.spout 0).ctl.state = .held :=
  ⟨after (.hold hdr [0]) { busy with pending := [] }, rfl, by decide +kernel⟩

theorem busy_stepSound : ∀ i, (busy.spout i).stepSound := by
  unfold Spout.stepSound; decide +kernel

theorem busy_paramsSound : ∀ i, (busy.spout i).paramsSound := by
  intro i q
  fin_cases i <;> cases q <;> decide +kernel

theorem witness_RecordKept : ∀ i, (busy.spout i).recordSound := by
  unfold Spout.recordSound Spout.stepSound; decide +kernel

theorem witness_AirKept : (∀ i, (busy.spout i).airSound) ∧ busy.grantsSound := by
  unfold Spout.airSound Spout.stepSound State.grantsSound; decide +kernel

theorem witness_DemandKept : ∀ i, (busy.spout i).demandSound := fun i =>
  ⟨busy_stepSound i, busy_paramsSound i, by revert i; decide +kernel⟩

theorem point_le (v : Vector Nat 17) (h : ∀ x ∈ v.toList, x ≤ 20000) (k : Nat) : v.getD k 0 ≤ 20000 := by
  by_cases hk : k < 17
  · have := h v[k] (by simp)
    simpa [Vector.getD, hk] using this
  · simp [Vector.getD, hk]

theorem witness_CurveKept : (∀ i, (busy.spout i).curveSound) ∧ busy.windowSound := by
  refine ⟨fun i => ?_, by unfold State.windowSound; decide +kernel⟩
  refine ⟨busy_stepSound i, ?_, ?_, ?_, ?_, ?_⟩
  · revert i; decide +kernel
  · revert i; decide +kernel
  · revert i; decide +kernel
  · intro x; revert i; cases x <;> decide +kernel
  · intro x k; apply point_le; revert i; cases x <;> decide +kernel

theorem witness_MeterKept : ∀ i, (busy.spout i).meterSound := by
  unfold Spout.meterSound; decide +kernel

theorem witness_CountsKept : ∀ i, (busy.spout i).zeroSound ∧ (busy.spout i).runsSound := by
  intro i
  have hw : (busy.spout i).zero.retryWait = none ∧ (busy.spout i).zero.step = none ∧
      (busy.spout i).ctl.pressureWait = none := by revert i; decide +kernel
  refine ⟨⟨busy_stepSound i, busy_paramsSound i, ?_, ?_, ?_, ?_, ?_, ?_, ?_⟩,
    ⟨busy_stepSound i, busy_paramsSound i, ?_, ?_, ?_, ?_, ?_, ?_, ?_, ?_, ?_, ?_⟩⟩
  all_goals first
    | (intro n h; simp [hw.1] at h)
    | (intro n h; simp [hw.2.1] at h)
    | (intro n h; simp [hw.2.2] at h)
    | (clear hw; revert i; decide +kernel)

theorem busy_queue (i : SpoutId) :
    (i = 0 ∧ (busy.spout i).queue = [{ order 41 [12000] with nextIndex := 2 }] ∧
      (busy.spout i).ctl.openComp = some ⟨41, 1, 12000⟩ ∧ (busy.spout i).ctl.state = .coarse ∧
      (busy.spout i).zero.step = none) ∨
    ((busy.spout i).queue = [] ∧ (busy.spout i).ctl.openComp = none ∧ (busy.spout i).ctl.state = .parked ∧
      (busy.spout i).zero.step = none) := by
  revert i; decide +kernel

theorem witness_OrdersKept : (∀ i, (busy.spout i).queueSound) ∧ busy.storeSound := by
  refine ⟨fun i => ⟨witness_RecordKept i, ?_⟩, by decide +kernel, fun i => ⟨?_, ?_⟩⟩
  · rcases busy_queue i with ⟨-, hq, hc, hs, hz⟩ | ⟨hq, hc, hs, hz⟩ <;> simp [hq, hc, hs, hz, Order.sound, order]
  · revert i; decide +kernel
  · intro k r h
    have e : ∀ j, (busy.spout j).ring = [] := by decide +kernel
    simp [e i] at h

theorem witness_LinksKept : busy.linkSound ∧ busy.timerSound := by
  unfold State.linkSound State.timerSound Counter.sound
  refine ⟨by decide +kernel, by decide, ?_, by decide⟩
  intro n h; cases h

theorem witness_LanesKept : busy.lanesSound := by
  refine ⟨busy_stepSound, ?_, ?_, by decide +kernel⟩
  · have h : ∀ l, (busy.lane l).all fun e => e.crc == ⟨0, false⟩ && e.gap == ⟨0, false⟩ && e.dup == ⟨0, false⟩ && e.age == 0 &&
        e.stale == false && e.lastSeq == none &&
        e.latest ≤ (match e.role with | .force | .gate => 0 | .air => 7000 | .probe | .bay => 1) := by decide +kernel
    intro l e he
    have := h l
    simp [he] at this
    obtain ⟨⟨⟨⟨⟨⟨h1, h2⟩, h3⟩, h4⟩, h5⟩, h6⟩, h7⟩ := this
    refine ⟨by simp [h1, Counter.sound], by simp [h2, Counter.sound], by simp [h3, Counter.sound], by omega, ?_, ?_, ?_, ?_, ?_⟩
    · rw [h4, h5]; cases e.role <;> decide
    · intro hr; rw [hr] at h7; exact ⟨h6, by simpa using h7⟩
    · intro hr; rw [hr] at h7; simp at h7; omega
    · intro hr; rw [hr] at h7; simp at h7; omega
    · rintro (hr | hr) <;> (rw [hr] at h7; simp at h7; omega)
  · have h : ∀ l m, ((busy.lane l).all fun e => (busy.lane m).all fun f => (e.spout == f.spout && e.role == f.role) → l = m) := by
      decide +kernel
    intro l m e f he hf h1 h2
    have := h l m
    simpa [he, hf, h1, h2] using this


theorem witness_AlertsCoalesce : Spout.reset.alerts[AlertKind.flood.index].pending = false := by decide

theorem witness_ZeroStepEntryAndAbandonment :
    (let due := resting .idle [] (zeroed (fun z => { z with owed := 1 }) Spout.reset)
     let waits := resting .idle [] (zeroed (fun z => { z with owed := 1, retryWait := some 1 }) Spout.reset)
     due.ctl.state = .idle ∧ due.zero.retryWait = none ∧ 1 ≤ due.zero.owed ∧ waits.zero.retryWait ≠ none) ∧
    (base.spout 0).zero.step = none ∧
    ((rig (stepping .normal .idle 0 128 0)).spout 0).zero.step = some ⟨.normal, .idle, 0, 0, 128, 4000⟩ := by
  decide +kernel

/-- Spout 0 waits in AWAIT_AIR with this resume phase; `other` is spout 1. -/
def waiting (ph : Phase) (other : Spout → Spout) : State :=
  (rig fun p => ctl (fun c => { c with resumePhase := some ph }) (loading .awaitAir p)).upd 1 other

/-- The holder of a grant in AWAIT_AIR. -/
def holding (ph : Phase) : State :=
  (waiting ph id).upd 0 fun p => { p with place := .holder, ctl := { p.ctl with pressureWait := some 0 } }

theorem witness_GrantDecision :
    ({ rig (loading .coarse) with grantCount := 1 }.grantCount ≤ (rig (loading .coarse)).holders ∧
      (∀ i, ((rig (loading .coarse)).spout i).place ≠ .waiter)) ∧
    (let s := (waiting .coarse (loading .coarse)).setLane 2 (some { air with latest := 5999 })
     isChain s.chain = true ∧ s.holders + 1 = s.grantCount ∧ s.chain = [] ++ 0 :: [1, 2, 3] ∧
       (s.spout 0).place = .waiter ∧ s.airReached 0 = false) ∧
    (let s := (waiting .coarse (loading .coarse)).setLane 2 (some { air with latest := 6000 })
     (s.spout 0).ctl.state = .awaitAir ∧ s.airReached 0 = true ∧ (s.spout 0).ctl.resumePhase = some .coarse ∧
       (s.spout 0).queue = [{ order 41 [12000] with nextIndex := 2 }]) ∧
    (let s := waiting .fine id
     s.holders < s.grantCount ∧ (s.spout 0).ctl.state = .awaitAir ∧ s.airReached 0 = true ∧
       (s.spout 0).ctl.resumePhase = some .fine) ∧
    (let s := { waiting .coarse (loading .coarse) with grantCount := 1 }
     isChain s.chain = true ∧ ((grantDecision s).spout 0).place = .waiter) ∧
    (∀ ph ∈ [Phase.coarse, .fine],
      let s := (holding ph).setLane 2 (some { air with latest := 6000 })
      s.roleLane 0 .air = some { air with latest := 6000 } ∧ (s.spout 0).ctl.state = .awaitAir ∧
        (s.spout 0).place = .holder ∧ (s.spout 0).par.airThreshold = 6000 ∧ (s.spout 0).ctl.resumePhase = some ph ∧
        (s.spout 0).queue = [{ order 41 [12000] with nextIndex := 2 }]) ∧
    base.roleLane 0 .air = some air ∧ (base.spout 0).ctl.state ≠ .awaitAir := by decide +kernel

theorem witness_CompartmentOpens :
    (let s := rig (resting .ready [order 41 [12000]])
     (s.spout 0).queue = [order 41 [12000]] ∧ s.permitted 0 = true) ∧
    (let s := { rig (resting .ready [order 41 [12000]]) with silent := true }
     (s.spout 0).queue = [order 41 [12000]] ∧ s.permitted 0 = false) := by decide +kernel

theorem witness_LoadingEnds :
    (base.spout 0).ctl.state = .parked ∧ (base.spout 0).ctl.openComp = none ∧
    ((rig (loading .coarse)).spout 0).ctl.state ≠ .parked ∧ ((rig (loading .coarse)).spout 0).ctl.state ≠ .faulted := by
  decide +kernel

theorem witness_ResultRecorded :
    (loading .tailing Spout.reset).ctl.openComp = some ⟨41, 1, 12000⟩ ∧ risingCurve.valid = true ∧ risingCurve.selected = .b ∧
    unchecked.valid = true ∧ unchecked.selected = .a := by decide +kernel

theorem witness_TauLearned :
    (let p := (tail 690 79 0).spout 0
     p.ctl.endReason.isSome = true ∧ p.ctl.endReason = some .normal ∧ p.ctl.flowAtClose = 2000 ∧ p.ctl.tau = 400 ∧
       p.par.gain = 4) ∧
    (let p := ctl (fun c => { c with flowAtClose := 500, tau := 4000 })
        { (tail 690 79 0).spout 0 with par := { Params.reset with gain := 16 } }
     p.ctl.endReason = some .normal ∧ 500 ≤ p.ctl.flowAtClose ∧ p.ctl.tau ≤ 4000 ∧ p.par.gain ≤ 16 ∧
       min 4000 ((2 * (p.chan.massG - p.ctl.massAtClose) * 40 + 500) / 1000) ≤ p.ctl.tau) ∧
    (let p := ctl (fun c => { c with flowAtClose := 499 }) ((tail 690 79 0).spout 0)
     p.ctl.endReason.isSome = true ∧ ¬ 500 ≤ p.ctl.flowAtClose) ∧
    ((loading .awaitAir Spout.reset).ctl.endReason = none ∧ RecordPath.aborted ≠ .tail false ∧
      (loading .coarse Spout.reset).ctl.endReason = none ∧ RecordPath.faulted ≠ .tail false) := by decide +kernel

theorem witness_MovingOn :
    (resting .faulted [] Spout.reset).queue = [] ∧
    (let o := { order 41 [12000, 8000] with nextIndex := 2 }
     o.nextIndex ≤ o.targets.length ∧ o.aborted = false) ∧
    (let o := { order 41 [12000] with nextIndex := 2 }
     o.targets.length < o.nextIndex) ∧
    ({ order 41 [12000] with aborted := true } : Order).aborted = true := by decide +kernel

theorem witness_SampleLossAndStarvation :
    base.laneOf 1 .force = none ∧
    (let s := rig fun p => loading .held (channelled (fun c => { c with missingRun := 4 }) p)
     s.laneOf 0 .force = some 0 ∧ 4 ≤ (s.spout 0).chan.missingRun ∧ (s.spout 0).ctl.state.compartmentOpen = true ∧
       (s.spout 0).zero.step = none) ∧
    (let s := rig fun p => resting .idle [] (channelled (fun c => { c with missingRun := 255 }) p)
     s.laneOf 0 .force = some 0 ∧ 4 ≤ (s.spout 0).chan.missingRun ∧ (s.spout 0).ctl.state.compartmentOpen = false) ∧
    (let s := (rig (loading .coarse)).setLane 0 (some { force with age := 49 })
     s.lane 0 = some { force with age := 49 } ∧ (s.spout 0).ctl.state.compartmentOpen = true) ∧
    base.lane 0 = some force ∧ (base.spout 0).ctl.state.compartmentOpen = false ∧
    (base.setLane 0 (some { force with age := 50, stale := true })).lane 0 =
      some { force with age := 50, stale := true } := by decide +kernel

theorem witness_DuePointsAndWaits :
    (∀ owed ∈ [0, 6, 7, 8],
      let p := resting .idle [] (zeroed (fun z => { z with dueCount := 23999, owed := owed }) Spout.reset)
      p.ctl.state ≠ .parked ∧ p.zero.dueCount + 1 = p.par.zeroInterval * 400 / 2) ∧
    (zeroed (fun z => { z with retryWait := some 1 }) Spout.reset).zero.retryWait = some 1 ∧
    199 + 1 = Spout.reset.par.reportInterval ∧ (base.laneOf 0 .force).isSome = true := by decide +kernel

/-- One sample short of the end of a step whose samples summed to `sum`, with this much of the set done. -/
def lastSample (k : StepKind) (o : Origin) (length sum done partialSum : Nat) : State :=
  rig fun p => stepping k o (length - 1) length sum (zeroed (fun z =>
    { z with owed := 1, stepsDone := done, partialSum := partialSum }) p)

theorem witness_StepsComplete :
    (∀ s ∈ [lastSample .normal .idle 128 1295400 0 0, lastSample .normal .ready 128 1295400 1 1305600],
      (s.gate 0).1 ≤ 20 ∧ (s.gate 0).2 = false ∧ (s.spout 0).zero.step.isSome = true ∧
        14200 ≤ (s.spout 0).zero.zero + 4000 ∧ (s.spout 0).zero.zero ≤ 6200 + 4000) ∧
    (let s := lastSample .normal .ready 128 1295400 1 1305600
     let candidate := ((s.spout 0).zero.partialSum + 1295400 + 10200 + 128) / 256
     2 ≤ (s.spout 0).zero.stepsDone + 1 ∧ candidate = 10200 ∧ (s.spout 0).zero.zero = 10200) ∧
    (let s := lastSample .normal .idle 128 1295400 1 6430720
     let candidate := ((s.spout 0).zero.partialSum + 1295400 + 10200 + 128) / 256
     (s.spout 0).zero.zero + (s.spout 0).par.driftLimit < candidate) ∧
    (let s := lastSample .makeup .ready 256 2601000 0 0
     let q := zeroed (fun z => { z with pendingProceed := true }) (s.spout 0)
     (s.spout 0).zero.step = some ⟨.makeup, .ready, 255, 2601000, 256, 4000⟩ ∧ 255 + 1 = 256 ∧
       (s.spout 0).zero.pendingProceed = false ∧ q.zero.pendingProceed = true) ∧
    (∀ sum ∈ [2601000, 7700000],
      let s := lastSample .zeroNow .idle 256 sum 0 0
      (s.spout 0).zero.step = some ⟨.zeroNow, .idle, 255, sum, 256, 4000⟩) ∧
    (2601000 + 10200 + 128) / 256 ≤ 10200 + 20000 ∧ 10200 + 20000 < (7800000 + 10200 + 128) / 256 := by decide +kernel

theorem witness_PacingPoint :
    (base.laneOf 0 .force).isSome = true ∧
    (let p := ctl (fun c => { c with pacing := 7 }) (resting .idle [] Spout.reset)
     p.ctl.pacing = 7 ∧ p.ctl.state.gateOpen = false) ∧
    (∀ st ∈ [SpoutState.coarse, .fine],
      let p := ctl (fun c => { c with pacing := 7 }) (loading st Spout.reset)
      p.ctl.pacing = 7 ∧ p.ctl.state = st ∧ p.queue = [{ order 41 [12000] with nextIndex := 2 }]) := by decide +kernel

theorem witness_FloodGateAirAndTail :
    (let p := flooded .coarse 9001 7 Spout.reset
     p.par.floodLimit ≠ 0 ∧ p.par.floodLimit < p.chan.filtered ∧ p.ctl.state = .coarse ∧ p.ctl.floodRun = 7) ∧
    (let p := flooded .fine 9001 399 Spout.reset
     p.par.floodLimit < p.chan.filtered ∧ p.ctl.state = .fine ∧ p.ctl.floodRun = 399) ∧
    (let s := jammed.setLane 1 (some { gate with latest := 51 })
     s.roleLane 0 .gate = some { gate with latest := 51 } ∧ (s.spout 0).ctl.stuckRun = 1199 ∧
       (s.spout 0).ctl.state = .tailing) ∧
    ((starvedOfAir 799).spout 0).ctl.pressureWait = some 799 ∧ ((starvedOfAir 799).spout 0).ctl.state = .awaitAir ∧
    (losingAir 199).roleLane 0 .air = some { air with latest := 2150 } ∧ ((losingAir 199).spout 0).ctl.state = .fine ∧
    ((losingAir 199).spout 0).ctl.airLostRun = 199 ∧
    (let p := (tail 690 79 49).spout 0
     p.ctl.state = .tailing ∧ p.chan.filtered < p.par.lowCut ∧ p.ctl.settleRun + 1 = p.par.settleCount) ∧
    (let p := (tail 690 120 49).spout 0
     p.chan.filtered < p.par.lowCut ∧ p.par.settleCount < p.ctl.settleRun) ∧
    (let p := (tail 3999 0 50).spout 0
     p.ctl.tailAge = 3999 ∧ p.par.lowCut ≤ p.chan.filtered) ∧
    (let p := (tail 3999 78 49).spout 0
     p.ctl.tailAge = 3999 ∧ p.ctl.settleRun + 1 < p.par.settleCount) := by decide +kernel

/-- A spout in ZEROING, this far into a NORMAL step of 128 samples, whose GATE lane reads this position. -/
def stepAt (taken position : Nat) (isStale : Bool) : State :=
  (rig (stepping .normal .idle taken 128 (10200 * taken))).setLane 1
    (some { gate with latest := position, stale := isStale })

theorem witness_ConditionsNotReached :
    base.laneOf 1 .force = none ∧
    (let p := ctl (fun c => { c with pacing := 6, stuckRun := 1200 })
       (channelled (fun c => { c with missingRun := 3 }) { Spout.reset with reportCount := 198 })
     p.chan.missingRun < 4 ∧ p.ctl.state = .parked ∧ p.zero.step = none ∧ p.zero.retryWait = none ∧ p.ctl.pacing < 7 ∧
       p.reportCount + 1 < p.par.reportInterval ∧ base.timer = none) ∧
    (let p := resting .idle [] (zeroed (fun z => { z with dueCount := 23998, retryWait := some 2 }) Spout.reset)
     p.ctl.state ≠ .parked ∧ p.zero.dueCount + 1 < p.par.zeroInterval * 400 / 2 ∧ p.zero.retryWait = some 2) ∧
    (((stepAt 126 20 false).spout 0).zero.step = some ⟨.normal, .idle, 126, 1285200, 128, 4000⟩ ∧
      20 < ((stepAt 127 21 false).gate 0).1 ∧ ((stepAt 127 20 true).gate 0).2 = true ∧
      ((stepAt 127 20 false).spout 0).zero.zero + 4000 < 14201 ∧
      6199 + 4000 < ((stepAt 127 20 false).spout 0).zero.zero) ∧
    (let p := flooded .coarse 9001 6 Spout.reset
     p.ctl.state = .coarse ∧ p.par.floodLimit < p.chan.filtered ∧ p.ctl.floodRun < 7) ∧
    (let p := flooded .fine 9001 398 Spout.reset
     p.ctl.state = .fine ∧ p.par.floodLimit < p.chan.filtered ∧ p.ctl.floodRun < 399) ∧
    ((flooded .coarse 9000 7 Spout.reset).chan.filtered ≤ (flooded .coarse 9000 7 Spout.reset).par.floodLimit ∧
      Spout.reset.par.floodLimit = 0) ∧
    (((jammed.upd 0 (ctl fun c => { c with stuckRun := 1198 })).spout 0).ctl.stuckRun < 1199 ∧
      ((jammed.setLane 1 (some { gate with latest := 50 })).gate 0).1 ≤ 50) ∧
    (((starvedOfAir 798).spout 0).ctl.state = .awaitAir ∧ ((starvedOfAir 798).spout 0).ctl.pressureWait = some 798 ∧
      ((rig (loading .awaitAir)).spout 0).ctl.pressureWait = none) ∧
    (((losingAir 198).spout 0).ctl.state = .fine ∧ (losingAir 198).airReached 0 = false ∧
      ((losingAir 198).spout 0).ctl.airLostRun < 199 ∧
      ((losingAir 199).setLane 2 (some { air with latest := 6000 })).airReached 0 = true) ∧
    (let p := (tail 3998 78 49).spout 0
     p.ctl.state = .tailing ∧ p.chan.filtered < p.par.lowCut ∧ p.ctl.settleRun + 1 < p.par.settleCount ∧
       p.ctl.tailAge < 3999) ∧
    (let p := (tail 3999 79 49).spout 0
     p.chan.filtered < p.par.lowCut ∧ p.par.settleCount ≤ p.ctl.settleRun + 1) ∧
    (let p := (tail 690 79 50).spout 0
     p.ctl.state = .tailing ∧ ¬ p.chan.filtered < p.par.lowCut) := by decide +kernel

theorem witness_SilenceExpiry : ({ rig (loading .coarse) with timer := some 999 } : State).timer = some 999 := rfl

theorem witness_StaleLanesAndInterlocks :
    base.lane 31 = none ∧ base.lane 0 = some force ∧ force.role = .force ∧
    base.lane 1 = some gate ∧ base.lane 2 = some air ∧ base.lane 3 = some probe ∧ base.lane 4 = some bay ∧
    (base.setLane 4 (some { bay with age := 200, stale := true })).lane 4 = some { bay with age := 200, stale := true } ∧
    ((rig (loading .armed)).spout 0).ctl.state = .armed ∧ (rig (loading .armed)).permitted 0 = true ∧
    ({ rig (loading .armed) with silent := true } : State).permitted 0 = false := by decide +kernel

theorem witness_FieldFramesRouted :
    (let short : Run := [0x10, 0, 1]
     let unsampled : Run := [0x20, 0, 1, 2]
     let unrouted : Run := [0x10, 5, 1, 0]
     let above : Run := [0x10, 32, 1, 0]
     ¬ 4 ≤ short.length ∧ ¬ (List.replicate 41 (0x10 : Byte)).length ≤ 40 ∧ unsampled.getD 0 0 ≠ 0x10 ∧
       4 ≤ unsampled.length ∧ base.lane 5 = none ∧ byteAt unrouted 1 = 5 ∧ (∀ l : LaneId, l.val ≠ byteAt above 1)) ∧
    (let long : Run := [0x10, 0, 1, 0, 0, 0, 0, 0]
     let bad : Run := [0x10, 0, 1, 0, 0, 0, 0]
     let good : Run := sealFrame [0x10, 2, 1, 0, 0x1B, 0x58]
     base.lane 0 = some force ∧ byteAt long 1 = 0 ∧ long.length ≠ 7 ∧ bad.length = 7 ∧
       bad.getLastD 0 ≠ crcOf bad.dropLast ∧ good.length = 7 ∧ good.getLastD 0 = crcOf good.dropLast ∧
       base.lane 2 = some air ∧ air.role ≠ .force) ∧
    (({ base with plantFifo := List.replicate 23 [] } : State).plantFifo.length < 24 ∧
      24 ≤ ({ base with plantFifo := List.replicate 24 [] } : State).plantFifo.length ∧
      ({ base with fieldFifo := List.replicate 15 [] } : State).fieldFifo.length < 16 ∧
      16 ≤ ({ base with fieldFifo := List.replicate 16 [] } : State).fieldFifo.length) := by decide +kernel

theorem witness_GoodForceSample :
    (let p := loading .coarse (channelled (fun c => { c with acc := 4294900000, lastSeq := some 0 }) Spout.reset)
     base.lane 0 = some force ∧ force.role = .force ∧ p.chan.lastSeq = some (1 - 1) ∧ 272343 - p.zero.zero ≤ 262143 ∧
       p.ctl.state.compartmentOpen = true ∧ p.chan.acc + 5005 ≤ 4294967295 ∧ 4294967295 < 4294967295 + 5005) ∧
    (base.spout 0).chan.lastSeq = none ∧ (base.spout 0).ctl.state.compartmentOpen = false ∧
    (let p := resting .idle [] Spout.reset
     p.zero.zero + 262143 < 272344 ∧ ¬ p.zero.zero + 262143 < 272343 ∧ p.chan.overrange = false) ∧
    (let p := loading .coarse (channelled (fun c => { c with overrange := true, acc := 4294967295 }) Spout.reset)
     HeadStatus.clipped ≠ .headFault ∧ HeadStatus.ok ≠ .headFault ∧ p.zero.zero + 262143 < 272344 ∧
       p.chan.overrange = true ∧ p.ctl.state.compartmentOpen = true ∧ 4294967295 < p.chan.acc + 8400 ∧
       (loading .coarse Spout.reset).chan.acc + 8400 ≤ 4294967295) := by
  decide +kernel

theorem witness_MissingForceSamples :
    (base.spout 0).chan.lastSeq = none ∧
    (let p := channelled (fun c => { c with lastSeq := some 254 }) Spout.reset
     p.chan.lastSeq = some 254 ∧ (254 : Byte) ≠ 2) ∧
    (let s := rig fun p => loading .coarse (channelled (fun c => { c with missingRun := 3, lastGood := 5005 }) p)
     (s.spout 0).chan.missingRun ≤ 3 ∧ (s.spout 0).zero.step = none ∧ (s.spout 0).ctl.state.compartmentOpen = true ∧
       (s.spout 0).chan.acc + (s.spout 0).chan.lastGood ≤ 4294967295) ∧
    (let p := loading .coarse (channelled (fun c => { c with missingRun := 3, lastGood := 1, acc := 4294967295 }) Spout.reset)
     p.chan.missingRun ≤ 3 ∧ p.zero.step = none ∧ p.ctl.state.compartmentOpen = true ∧
       4294967295 < p.chan.acc + p.chan.lastGood) ∧
    (let p := (stepAt 126 20 false).spout 0
     p.chan.missingRun ≤ 3 ∧ p.ctl.state = .zeroing ∧ p.zero.step = some ⟨.normal, .idle, 126, 1285200, 128, 4000⟩) ∧
    (let p := loading .coarse (channelled (fun c => { c with missingRun := 4 }) Spout.reset)
     4 ≤ p.chan.missingRun ∧ p.ctl.state.compartmentOpen = true ∧ p.zero.step = none) ∧
    (let p := stepping .normal .idle 5 128 0 (channelled (fun c => { c with missingRun := 255 }) Spout.reset)
     4 ≤ p.chan.missingRun ∧ p.ctl.state.compartmentOpen = false) ∧
    (base.spout 0).chan.missingRun ≤ 3 ∧ (base.spout 0).ctl.state = .parked ∧ (base.spout 0).zero.step = none ∧
    (base.spout 0).zero.retryWait = none := by decide +kernel

/-- A spout in IDLE or PARKED with every count of samples one short of acting. -/
def counting (st : SpoutState) : State :=
  (rig fun p => ctl (fun c => { c with pacing := 7, stuckRun := 1198 })
    (resting st [] (zeroed (fun z => { z with dueCount := 23998, retryWait := some 2 }) { p with reportCount := 199 })))
  |>.setLane 1 (some { gate with latest := 51 })

/-- States at which the checks of `SampleCounts` bring their conditions about, and the free value is read. -/
theorem witness_SampleCounts_conditions :
    (let s := (stepAt 127 20 false).upd 0 (zeroed fun z => { z with dueCount := 23999 })
     let t := controllerSample 0 s
     (t.spout 0).dueReached = true ∧ (s.spout 0).zero.step ≠ none ∧ t.completesStep 0 10200 .ok = true ∧
       ¬ (base.spout 0).dueReached = true) ∧
    (let p := (tail 690 79 49).spout 0
     p.ctl.state = .tailing ∧ p.chan.filtered < p.par.lowCut ∧ p.par.settleCount ≤ p.ctl.settleRun + 1) ∧
    (let p := (tail 3999 0 50).spout 0
     ¬ p.chan.filtered < p.par.lowCut ∧ 3999 ≤ p.ctl.tailAge) ∧
    (let p := flooded .coarse 9001 7 Spout.reset
     p.ctl.state = .coarse ∧ p.par.floodLimit ≠ 0 ∧ p.par.floodLimit < p.chan.filtered ∧ 7 ≤ p.ctl.floodRun) ∧
    (let p := flooded .fine 9001 399 Spout.reset
     p.ctl.state = .fine ∧ p.par.floodLimit < p.chan.filtered ∧ 399 ≤ p.ctl.floodRun) ∧
    (let p := ctl (fun c => { c with pacing := 7 }) (loading .coarse Spout.reset)
     7 ≤ p.ctl.pacing ∧ p.ctl.state = .coarse ∧ p.queue = [{ order 41 [12000] with nextIndex := 2 }]) ∧
    ((losingAir 199).airReached 0 = false ∧ ((losingAir 199).spout 0).ctl.state.gateOpen = true ∧
      199 ≤ ((losingAir 199).spout 0).ctl.airLostRun ∧ base.airReached 0 = true) ∧
    (((starvedOfAir 799).spout 0).ctl.state = .awaitAir ∧ ((starvedOfAir 799).spout 0).ctl.pressureWait = some 799 ∧
      (base.spout 0).ctl.pressureWait = none) ∧
    ((jammed.spout 0).ctl.state = .tailing ∧ 50 < (jammed.gate 0).1 ∧ 1199 ≤ (jammed.spout 0).ctl.stuckRun) ∧
    (∀ owed ∈ [6, 7, 8],
      (resting .idle [] (zeroed (fun z => { z with dueCount := 23999, owed := owed }) Spout.reset)).dueReached = true) ∧
    (zeroed (fun z => { z with retryWait := some 1 }) Spout.reset).zero.retryWait = some 1 ∧
    (let s := stepAt 127 20 false
     (s.spout 0).zero.step = some ⟨.normal, .idle, 127, 1295400, 128, 4000⟩ ∧ (s.gate 0).1 ≤ 20 ∧ (s.gate 0).2 = false ∧
       14200 ≤ (s.spout 0).zero.zero + 4000 ∧ (s.spout 0).zero.zero ≤ 6200 + 4000 ∧ 128 ≤ 127 + 1) := by decide +kernel

theorem witness_SampleCounts :
    (let s := counting .idle
     (s.spout 0).ctl.state.gateOpen = false ∧ (s.spout 0).par.floodLimit = 0 ∧ (s.spout 0).ctl.stuckRun < 1199 ∧
       50 < (s.gate 0).1 ∧ (s.spout 0).zero.dueCount + 1 < (s.spout 0).par.zeroInterval * 400 / 2 ∧
       (s.spout 0).zero.retryWait = some 2 ∧ (s.spout 0).zero.step = none) ∧
    ((counting .parked).spout 0).ctl.state = .parked ∧
    (let s := (losingAir 198).upd 0 (ctl fun c => { c with pacing := 6 })
     let p := s.spout 0
     p.ctl.state.gateOpen = true ∧ p.ctl.pacing < 7 ∧ p.ctl.airLostRun < 199 ∧ p.ctl.openComp = some ⟨41, 1, 12000⟩ ∧
       p.chan.massG + p.chan.filtered * p.ctl.tau / 40 < 12000 * 1000 ∧
       p.zero.dueCount + 1 < p.par.zeroInterval * 400 / 2 ∧ p.zero.retryWait = none ∧ p.zero.step = none) ∧
    (let s := rig (flooded .coarse 9001 6)
     let p := s.spout 0
     p.ctl.state = .coarse ∧ p.par.floodLimit ≠ 0 ∧ p.par.floodLimit < p.chan.filtered ∧ p.ctl.floodRun < 7 ∧
       p.ctl.pacing < 7 ∧ s.airReached 0 = true ∧ p.ctl.openComp = some ⟨41, 1, 12000⟩ ∧
       p.par.fineBand * 1000 < 12000 * 1000 - (p.chan.massG + p.chan.filtered * p.ctl.tau / 40)) ∧
    (((starvedOfAir 798).spout 0).ctl.state = .awaitAir ∧ ((starvedOfAir 798).spout 0).ctl.pressureWait = some 798 ∧
      ((starvedOfAir 798).gate 0).1 ≤ 50) ∧
    (let p := (tail 3998 78 49).spout 0
     p.ctl.state = .tailing ∧ ¬ p.par.settleCount ≤ p.ctl.settleRun + 1 ∧ p.ctl.tailAge < 3999) ∧
    (let s := stepAt 126 20 false
     let p := s.spout 0
     p.ctl.state = .zeroing ∧ p.zero.step = some ⟨.normal, .idle, 126, 1285200, 128, 4000⟩ ∧ p.zero.retryWait = none ∧
       (s.gate 0).1 ≤ 20 ∧ (s.gate 0).2 = false ∧ 14200 ≤ p.zero.zero + 4000 ∧ p.zero.zero ≤ 6200 + 4000 ∧
       126 + 1 < 128 ∧ ¬ 14201 ≤ p.zero.zero + 4000) := by decide +kernel

/-- A spout in this state at this mass with a flow of `flow`, its compartment of 12,000 kg open. -/
def nearing (st : SpoutState) (massG flow : Nat) : State :=
  rig fun p => loading st (channelled (fun c => { c with massG := massG, filtered := flow }) p)

theorem witness_CutoffShutsGate :
    (let p := (nearing .fine 11980000 2000).spout 0
     12000 * 1000 ≤ p.chan.massG + p.chan.filtered * p.ctl.tau / 40 ∧ p.ctl.openComp = some ⟨41, 1, 12000⟩ ∧
       p.ctl.state = .fine) ∧
    (let p := (nearing .coarse 11120000 8000).spout 0
     12000 * 1000 - (p.chan.massG + p.chan.filtered * p.ctl.tau / 40) = p.par.fineBand * 1000 ∧ p.ctl.state = .coarse) ∧
    (let p := (nearing .coarse 11119900 8000).spout 0
     p.par.fineBand * 1000 < 12000 * 1000 - (p.chan.massG + p.chan.filtered * p.ctl.tau / 40)) ∧
    (∀ st ∈ [SpoutState.coarse, .fine], (nearing st 12000000 0 |>.spout 0).stepSound) := by
  unfold Spout.stepSound; decide +kernel

theorem witness_CutoffShutsGate_sound :
    ((nearing .fine 11980000 2000).spout 0).recordSound ∧ ((nearing .fine 11980000 2000).spout 0).runsSound := by
  have hp : ((nearing .fine 11980000 2000).spout 0).paramsSound := by intro q; cases q <;> decide +kernel
  have hs : ((nearing .fine 11980000 2000).spout 0).stepSound := by unfold Spout.stepSound; decide +kernel
  have hn : ((nearing .fine 11980000 2000).spout 0).ctl.pressureWait = none := by decide +kernel
  refine ⟨⟨hs, by decide +kernel⟩, hs, hp, ?_, ?_, ?_, ?_, ?_, ?_, ?_, ?_, ?_, ?_⟩
  all_goals first
    | (intro n h; simp [hn] at h)
    | (clear hn; decide +kernel)

theorem witness_LatestValueFrames :
    base.lane 1 = some gate ∧ base.lane 2 = some air ∧ base.lane 3 = some probe ∧ base.lane 4 = some bay ∧
    gate.role = .gate ∧ air.role = .air ∧ probe.role = .probe ∧ bay.role = .bay ∧ gate.lastSeq ≠ some 1 ∧
    ({ gate with lastSeq := some 1 } : Lane).lastSeq = some 1 ∧ HeadStatus.clipped ≠ .headFault := by decide +kernel

theorem witness_PlantFramesRouted :
    ¬ 4 ≤ [(0x30 : Byte), 3, 7].length ∧ ¬ (List.replicate 41 (0x30 : Byte)).length ≤ 40 ∧
    ([0x10, 0, 0, 0] : Run).getD 0 0 ≠ 0x30 ∧
    (let mine := requestFrame hdr 0x42 [0]
     let others := requestFrame ⟨4, 7⟩ 0x42 [0]
     let bad : Run := [0x30, 3, 7, 0x42, 0, 0]
     let malformed := sealFrame [0x30, 3, 7, 0x42, 2, 0]
     6 ≤ others.length ∧ base.isAddressed (others.getD 1 0) (others.getD 3 0) = false ∧
       base.isAddressed (mine.getD 1 0) (mine.getD 3 0) = true ∧ 6 ≤ bad.length ∧
       base.isAddressed (bad.getD 1 0) (bad.getD 3 0) = true ∧ bad.getLastD 0 ≠ crcOf bad.dropLast ∧
       malformed.getLastD 0 = crcOf malformed.dropLast ∧ malformed.length ≠ 6 + byteAt malformed 4 ∧
       base.isAddressed (malformed.getD 1 0) (malformed.getD 3 0) = true) ∧
    (let short : Run := [0x30, 3, 7, 0x42, 0]
     short.length < 6 ∧ 4 ≤ short.length ∧ base.address ≠ 15 ∧ byteAt short 1 = base.address ∧
       byteAt [0x30, 4, 7, 0x42, 0] 1 ≠ base.address ∧ State.reset.address = 15) := by decide +kernel

theorem witness_RequestsTurnedAway :
    base.address ≠ 15 ∧ State.reset.address = 15 ∧
    (Instr.hold hdr [0]).request? = some (.hold, hdr, [0]) ∧ base.isAddressed hdr.address RequestKind.hold.code = true ∧
    (Instr.hold ⟨4, 7⟩ [0]).request? = some (.hold, ⟨4, 7⟩, [0]) ∧
    base.isAddressed 4 RequestKind.hold.code = false ∧
    (List.replicate 34 (0 : Byte)).length ≤ 34 ∧ 34 < (List.replicate 35 (0 : Byte)).length ∧
    32 < (List.replicate 33 (0 : Byte)).length ∧ (List.replicate 32 (0 : Byte)).length ≤ 32 ∧
    (let s : State := { base with restartPending := true }
     s.isAddressed hdr.address RequestKind.hold.code = true ∧ s.restartPending = true) ∧
    (let s : State := { base with respFifo := List.replicate 4 ⟨[], false⟩ }
     s.isAddressed hdr.address RequestKind.hold.code = true ∧ s.restartPending = false ∧ 4 ≤ s.respFifo.length) := by
  decide +kernel

/-- `base` with FLOOD pending on spout 2. -/
def alerting : State := base.upd 2 (Spout.raise .flood 1)

theorem no_alerts (s : State) (i : SpoutId) (h : (s.spout i).alerts = Spout.reset.alerts) (k : AlertKind) :
    (s.spout i).alerts[k.index].pending = false := by
  rw [h]; cases k <;> decide

theorem witness_PlantLineChoice :
    (let s : State := { base with plantLine := some ⟨[1], false⟩ }
     s.plantLine = some ⟨[1], false⟩) ∧
    (let s : State := { base with plantFifo := [[1]] }
     s.plantLine = none ∧ s.plantFifo = [1] :: []) ∧
    (let s : State := { base with respFifo := [⟨[1], false⟩] }
     s.plantLine = none ∧ s.plantFifo = [] ∧ s.respFifo = ⟨[1], false⟩ :: []) ∧
    (alerting.plantLine = none ∧ alerting.plantFifo = [] ∧ alerting.respFifo = [] ∧
      (alerting.spout 2).alerts[AlertKind.flood.index].pending = true ∧
      (∀ j < (2 : SpoutId), (alerting.spout j).alerts = Spout.reset.alerts) ∧
      (alerting.spout 2).alerts[AlertKind.forceOverrange.index].pending = false) ∧
    (∀ i, (base.spout i).alerts = Spout.reset.alerts) ∧
    (raiseSilence 1 base).silenceMark.pending = true ∧ base.silenceMark.pending = false ∧
    (raiseOverrun 1 base).overrunMark.pending = true ∧ base.overrunMark.pending = false ∧
    (let s := base.upd 3 fun p => { p with reportDue := true }
     (3 : SpoutId).val = (s.lastReported.val + 1 + 3) % 4 ∧ (s.spout 3).reportDue = true ∧
       ∀ j : SpoutId, ∀ m < 3, j.val = (s.lastReported.val + 1 + m) % 4 → (s.spout j).reportDue = false) ∧
    (∀ i, (base.spout i).reportDue = false) := by
  decide +kernel

theorem witness_FieldLineChoice :
    (let s : State := { base with fieldLine := some ⟨[1], false⟩ }
     s.fieldLine = some ⟨[1], false⟩) ∧
    base.fieldLine = none ∧ base.plantLine = none ∧ (∀ i, (base.spout i).gatePending = false) ∧ base.fieldFifo = [] ∧
    ({ base with fieldFifo := [[1]] } : State).fieldFifo = [1] :: [] ∧
    (let s := rig fun p => { p with gatePending := true }
     (s.spout 0).gatePending = true ∧ s.laneOf 0 .gate = some 1) ∧
    (let s := base.upd 3 fun p => { p with gatePending := true }
     (∀ j < (3 : SpoutId), (s.spout j).gatePending = false) ∧ (s.spout 3).gatePending = true ∧
       s.laneOf 3 .gate = none) := by decide +kernel

theorem witness_RestartAndPowerOn :
    base.takes hdr 0x08 ∧ ({ base with plantLine := some ⟨[1], true⟩ } : State).plantLine = some ⟨[1], true⟩ := by
  unfold State.takes; decide +kernel

/-! #### Requests

`base` and every `rig` take every request but ASSIGN. -/

theorem rig_takes (f : Spout → Spout) (code : Byte) (h : code ≠ 0x02) : (rig f).takes hdr code := by
  have e : base.address = 3 := rfl
  refine ⟨?_, rfl, by show base.respFifo.length < 4; decide⟩
  show base.isAddressed hdr.address code = true
  have h' : code ≠ RequestKind.assign.code := h
  simpa [State.isAddressed, e, hdr] using h'

theorem base_takes (code : Byte) (h : code ≠ 0x02) : base.takes hdr code := rig_takes id code h

theorem witness_SpoutRequestsRefused :
    base.takes hdr RequestKind.hold.code ∧ (Instr.hold hdr [0, 0]).request? = some (.hold, hdr, [0, 0]) ∧
    (Instr.hold hdr [4]).request? = some (.hold, hdr, [4]) ∧ 3 < (4 : Byte).toNat ∧
    (base.spout 0).ctl.state = .parked ∧ ((rig (loading .coarse)).spout 0).ctl.state = .coarse :=
  ⟨base_takes _ (by decide), rfl, rfl, by decide, rfl, rfl⟩

theorem witness_Proceed :
    (let p := resting .ready [order 41 [12000]] Spout.reset
     p.ctl.state = .ready ∧ p.zero.makeupOwed = false) ∧
    (let p := resting .ready [order 41 [12000]] (zeroed (fun z => { z with makeupOwed := true }) Spout.reset)
     p.ctl.state = .ready ∧ p.zero.makeupOwed = true) ∧
    (∀ o ∈ [Origin.idle, .ready], ∀ k ∈ [StepKind.normal, .makeup, .zeroNow],
      let p := stepping k o 0 128 0 Spout.reset
      p.ctl.state = .zeroing ∧ p.zero.step = some ⟨k, o, 0, 0, 128, 4000⟩) := by decide +kernel

theorem witness_Abort :
    (∀ st ∈ [SpoutState.armed, .awaitAir, .coarse, .fine, .held, .tailing],
      let p := loading st Spout.reset
      p.ctl.state = st ∧ p.queue = [{ order 41 [12000] with nextIndex := 2 }]) ∧
    (loading .tailing Spout.reset).ctl.endReason ≠ some .abort ∧
    (ctl (fun c => { c with endReason := some .abort }) (loading .tailing Spout.reset)).ctl.endReason = some .abort ∧
    (resting .ready [order 41 [12000], order 42 [12000]] Spout.reset).queue =
      order 41 [12000] :: [order 42 [12000]] := by decide +kernel

theorem witness_Hold : (rig (loading .armed)).takes hdr 0x42 ∧ ((rig (loading .armed)).spout 0).ctl.state = .armed :=
  ⟨rig_takes _ _ (by decide), rfl⟩

theorem witness_Resume :
    (let s := rig (loading .held)
     (s.spout 0).ctl.state = .held ∧ (s.spout 0).ctl.heldReason ≠ some .bay ∧ s.probeClear 0 = true ∧
       s.bayPermissive 0 = true ∧ (s.setLane 4 (some { bay with latest := 0 })).bayPermissive 0 = false ∧
       (s.setLane 3 (some { probe with latest := 1 })).probeClear 0 = false) ∧
    (let s := (rig fun p => ctl (fun c => { c with heldReason := some .bay }) (loading .held p)).setLane 4
        (some { bay with latest := 0 })
     (s.spout 0).ctl.heldReason = some .bay ∧ s.bayPermissive 0 = false) := by decide +kernel

theorem witness_ParkUnparkClearZeroNow :
    ((base.spout 0).ctl.state = .parked ∧ (base.spout 0).curve.valid = false) ∧
    (let s := rig (resting .parked [])
     (s.spout 0).ctl.state = .parked ∧ (s.spout 0).curve.valid = true ∧ (s.laneOf 0 .force).isSome = true ∧
       (s.laneOf 0 .gate).isSome = true ∧ (s.laneOf 0 .air).isSome = true ∧ (s.spout 0).zero.retryWait = none) ∧
    (∀ o ∈ [Origin.idle, .ready],
      (stepping .normal o 0 128 0 Spout.reset).zero.step = some ⟨.normal, o, 0, 0, 128, 4000⟩) ∧
    (let s := rig fun p => ctl (fun c => { c with faultKind := some .gateStuck }) (resting .faulted [] p)
     (s.spout 0).ctl.state = .faulted ∧ (s.spout 0).ctl.faultKind = some .gateStuck ∧ (s.gate 0).1 ≤ 50 ∧
       (s.gate 0).2 = false ∧ ((s.setLane 1 (some { gate with latest := 50 })).gate 0).1 ≤ 50 ∧
       ¬ ((s.setLane 1 (some { gate with latest := 51 })).gate 0).1 ≤ 50) ∧
    ((rig (resting .faulted [])).spout 0).ctl.faultKind ≠ some .gateStuck ∧
    (resting .idle [] Spout.reset).zero.makeupOwed = false ∧
    (resting .idle [] (zeroed (fun z => { z with makeupOwed := true }) Spout.reset)).zero.makeupOwed = true := by
  decide +kernel

theorem witness_IdentAndAssign :
    base.takes hdr 0x01 ∧ State.reset.takes ⟨15, 7⟩ 0x01 ∧ State.reset.takes ⟨15, 7⟩ 0x02 ∧ (14 : Byte).toNat ≤ 14 ∧
    15 ≤ byteAt [15] 0 := by
  unfold State.takes; decide +kernel

/-- A silent NB4 whose spout 0 is in this state. -/
def silentWith (st : SpoutState) : State := { rig (loading st) with silent := true }

theorem witness_KeepaliveAndSilentFlag :
    base.takes hdr 0x03 ∧ (silentWith .armed).silent = true ∧
    (((silentWith .armed).spout 0).ctl.state = .armed ∧ (silentWith .armed).bayPermissive 0 = true ∧
      (silentWith .armed).probeClear 0 = true) ∧
    (∀ i, ((silentWith .held).spout i).ctl.state ≠ .armed) := by
  unfold State.takes; decide +kernel

theorem witness_SetDeviceParam :
    base.takes hdr 0x04 ∧ 4 < (5 : Byte).toNat ∧ spoutParam (34 : Byte).toNat = none ∧ spoutParam (15 : Byte).toNat = none ∧
    deviceParam (3 : Byte).toNat = none ∧ deviceParam (0 : Byte).toNat = none ∧ base.grantCount < max 1 (min 4 3) ∧
    max 1 (min 4 0) ≤ base.grantCount := by
  unfold State.takes; decide +kernel

theorem witness_SetSpoutParam :
    base.takes hdr 0x04 ∧ spoutParam (16 : Byte).toNat = some .span ∧
    ((rig (loading .coarse)).spout 0).ctl.state.compartmentOpen = true ∧ (base.spout 0).ctl.state.compartmentOpen = false ∧
    Cadence.z1 ≠ (base.spout 0).zero.cadence ∧ Cadence.z2 = (base.spout 0).zero.cadence ∧
    (∀ k ∈ [StepKind.normal, .makeup], (stepping k .idle 0 128 0 Spout.reset).zero.step = some ⟨k, .idle, 0, 0, 128, 4000⟩) := by
  unfold State.takes; decide +kernel

theorem witness_GetParam :
    base.takes hdr 0x05 ∧ 4 < (5 : Byte).toNat ∧ deviceParam (3 : Byte).toNat = none ∧ spoutParam (15 : Byte).toNat = none ∧
    spoutParam (33 : Byte).toNat = some .settleCount := by
  unfold State.takes; decide +kernel

theorem witness_StatusCountersUnknown :
    base.takes hdr 0x06 ∧ 3 < (4 : Byte).toNat ∧ base.takes hdr 0x99 ∧ requestKind 0x99 = none ∧ base.takes hdr 0x07 ∧
    (26 + 6 ≤ 32 ∧ 32 < 27 + 6 ∧ 31 < 32 ∧ 6 < 7) := by
  unfold State.takes; decide +kernel

theorem witness_CurveWindow :
    base.takes hdr 0x10 ∧ base.takes hdr 0x13 ∧ base.takes hdr 0x14 ∧ 3 < (4 : Byte).toNat ∧ 1 < (2 : Byte).toNat ∧
    (1 : Byte) = byte Bank.b.code ∧ (0 : Byte) = byte Bank.a.code ∧ 16 < (17 : Byte).toNat ∧ (0 : Byte).toNat ≤ (16 : Byte).toNat ∧
    (windowed 0).window.isOpen = true ∧ base.window.isOpen = false ∧ (windowed 17).window.cursor = 17 := by
  unfold State.takes; decide +kernel

theorem witness_WriteWindow :
    base.takes hdr 0x11 ∧ base.takes hdr 0x12 ∧ base.window.isOpen = false ∧ (windowed 0).window.isOpen = true ∧
    (windowed 0).window.first = 0 ∧ (windowed 17).window.cursor = 17 ∧ (windowed 0).window.last ≤ 16 ∧
    ((windowed 0).spout 0).curve.status .b = .standbyUnchecked ∧
    ({ rig (resting .idle []) with window := (windowed 0).window } : State).window.bank = .b ∧
    ((rig (resting .idle [])).spout 0).curve.status .b = .active := by
  unfold State.takes; decide +kernel

/-- A standby bank that falls at point 16 only. -/
def falling : CurveStore := { unchecked with bankB := risingCurve.bankB.set 16 7999 }

theorem witness_Activate :
    base.takes hdr 0x15 ∧ (([] : List Byte).length ≠ 1 ∧ (List.replicate 32 (0 : Byte)).length ≠ 1 ∧ 3 < (4 : Byte).toNat) ∧
    unchecked.status unchecked.standby ≠ .pending ∧
    (unchecked.setStatus .b .pending).status .b = .pending ∧ unchecked.selected = .a ∧
    (∀ k, 1 ≤ k → k ≤ 16 →
      (unchecked.points unchecked.standby).getD (k - 1) 0 ≤ (unchecked.points unchecked.standby).getD k 0) ∧
    0 < (unchecked.points unchecked.standby).getD 16 0 ∧
    ((falling.points falling.standby).getD 16 0 < (falling.points falling.standby).getD 15 0 ∧
      ∀ j, 1 ≤ j → j < 16 →
        (falling.points falling.standby).getD (j - 1) 0 ≤ (falling.points falling.standby).getD j 0) ∧
    (CurveStore.reset.points CurveStore.reset.standby).getD 16 0 = 0 ∧
    ({ unchecked with selected := .b, statusA := .standbyUnchecked, statusB := .active } : CurveStore).standby = .a ∧
    ((rig (loading .coarse)).spout 0).ctl.state.compartmentOpen = true := by
  have e : ∀ v : Vector Nat 17, ∀ n, (∀ k : Fin n, 1 ≤ k.val → v.getD (k.val - 1) 0 ≤ v.getD k.val 0) →
      ∀ k, 1 ≤ k → k < n → v.getD (k - 1) 0 ≤ v.getD k 0 := fun v n h k h1 hk => h ⟨k, hk⟩ h1
  refine ⟨base_takes _ (by decide), by decide, by decide +kernel, by decide +kernel, by decide +kernel, ?_,
    by decide +kernel, ⟨by decide +kernel, e _ 16 (by decide +kernel)⟩, by decide +kernel, by decide +kernel, by decide +kernel⟩
  intro k h1 hk
  exact e _ 17 (by decide +kernel) k h1 (by omega)

theorem witness_MapAndUnmapLane :
    base.takes hdr 0x20 ∧ base.takes hdr 0x21 ∧ 3 < (4 : Byte).toNat ∧ laneOfField (32 : Byte).toNat = none ∧
    laneOfField (31 : Byte).toNat = some 31 ∧ 4 < (5 : Byte).toNat ∧ (4 : Byte) = byte Role.bay.code ∧
    (0 : Byte) = byte Role.force.code ∧ 1 < (2 : Byte).toNat ∧ (1 : Byte).toNat ≤ 1 ∧
    ((rig (loading .coarse)).spout 0).ctl.state ≠ .parked ∧ (base.spout 0).ctl.state = .parked ∧
    (base.lane 0).isSome = true ∧ base.lane 31 = none ∧ (base.laneOf 0 .force).isSome = true ∧ base.laneOf 1 .force = none ∧
    base.lane 1 = some gate ∧ gate.role = .gate ∧ base.lane 4 = some bay ∧ bay.role ≠ .gate := by
  unfold State.takes; decide +kernel

theorem witness_SetChain :
    base.takes hdr 0x22 ∧ ([3, 2, 1, 0] : List SpoutId).Perm [0, 1, 2, 3] ∧ ¬ ([3, 3, 1, 0] : List SpoutId).Perm [0, 1, 2, 3] := by
  unfold State.takes; decide +kernel

theorem witness_Enqueue :
    base.takes hdr 0x30 ∧ 3 < byteAt [4, 0, 1, 1] 0 ∧
    (([] : List Byte).length < 4 ∧ 3 < byteAt [4, 0, 1] 0 ∧ byteAt [3, 0] 0 = (3 : SpoutId).val ∧
      [0, 0, 7].length = 3 ∧ byteAt [0, 0, 7] 0 = (0 : SpoutId).val) ∧
    (1 ≤ byteAt [0, 0, 1, 6] 3 ∧ byteAt [0, 0, 1, 6] 3 ≤ 6 ∧ ¬ byteAt [0, 0, 1, 7] 3 ≤ 6 ∧ word16At [0, 0, 0, 1] 1 = 0) ∧
    ((base.spout 0).ctl.state = .parked ∧ (base.spout 0).curve.valid = false) ∧
    ((rig (resting .parked [])).configured 0 = true) ∧
    (let s := rig (resting .ready [order 41 [12000]])
     (∃ o ∈ (s.spout 0).queue, o.tag = 41) ∧ ∀ o ∈ (s.spout 0).queue, o.tag ≠ 42) ∧
    (let s := rig (resting .ready (List.replicate 8 (order 41 [12000])))
     8 ≤ (s.spout 0).queue.length ∧
       16 ≤ (s.upd 1 (resting .ready (List.replicate 8 (order 41 [12000])))).heldOrders ∧
       (s.upd 1 (resting .ready (List.replicate 7 (order 41 [12000])))).heldOrders < 16) ∧
    ((resting .faulted [] Spout.reset).ctl.state = .faulted ∧ (resting .idle [] Spout.reset).queue = [] ∧
      (stepping .makeup .idle 0 256 0 Spout.reset).zero.step = some ⟨.makeup, .idle, 0, 0, 256, 4000⟩ ∧
      (stepping .normal .idle 0 128 0 Spout.reset).zero.step = some ⟨.normal, .idle, 0, 0, 128, 4000⟩) := by
  unfold State.takes; decide +kernel

theorem witness_CancelAndResults :
    base.takes hdr 0x31 ∧ base.takes hdr 0x32 ∧ 3 < (4 : Byte).toNat ∧
    (let q := (resting .ready [order 40 [12000], order 41 [12000]] Spout.reset).queue
     (∀ o ∈ q, o.tag ≠ 42) ∧ q = order 40 [12000] :: [order 41 [12000]] ∧ (order 40 [12000]).tag ≠ 41 ∧
       (∃ r ∈ [order 41 [12000]], r.tag = 41) ∧ (∀ r ∈ [order 41 [12000]], r.tag ≠ (order 40 [12000]).tag)) ∧
    (∀ st ∈ [SpoutState.ready, .faulted], (resting st [order 40 [12000]] Spout.reset).ctl.state = st) ∧
    (stepping .normal .ready 0 128 0 Spout.reset).ctl.state = .zeroing ∧
    (loading .coarse Spout.reset).ctl.state.compartmentOpen = true ∧
    7 < (8 : Byte).toNat ∧ 8 < (9 : Byte).toNat ∧ (7 : Byte).toNat ≤ 7 ∧ 1 ≤ (8 : Byte).toNat ∧ (8 : Byte).toNat ≤ 8 := by
  unfold State.takes; decide +kernel
end Sys2Proof.Tests
end

section
/-! PROOFS. What the silence timer and flag leave of a spout when a request is accepted (R170), and the settled statements
about the spout requests. -/

namespace Sys2Proof.Machine

variable {s : State} {i j : SpoutId}

/-! ### An accepted request and a spout outside ARMED -/

theorem joinWaiters_spout_ne (h : j ≠ i) (s : State) : (joinWaiters i s).spout j = s.spout j := by
  rw [joinWaiters, spout_upd_ne _ _ h, enter, spout_upd_ne _ _ h]

theorem foldl_joinWaiters_spout_of_notMem {is : List SpoutId} (h : j ∉ is) (s : State) :
    (is.foldl (fun u i => joinWaiters i u) s).spout j = s.spout j := by
  induction is generalizing s with
  | nil => rfl
  | cons k ks ih =>
    obtain ⟨hk, hks⟩ := not_or.mp (mt List.mem_cons.mpr h)
    rw [List.foldl_cons, ih hks, joinWaiters_spout_ne hk]

theorem notMem_filter_releasable (h : (s.spout j).ctl.state ≠ .armed) : j ∉ spoutIds.filter s.releasable := by
  simp [State.releasable, h]

/-- R170: only spouts in ARMED join the waiters, so any other spout meets no more than the one grant decision. -/
theorem joined_regrants (h : (s.spout j).ctl.state ≠ .armed) :
    (s.spout j).regranted
      ((grantDecision ((spoutIds.filter s.releasable).foldl (fun u i => joinWaiters i u) s)).spout j) := by
  have hg := grantDecision_regrants ((spoutIds.filter s.releasable).foldl (fun u i => joinWaiters i u) s) j
  rwa [foldl_joinWaiters_spout_of_notMem (notMem_filter_releasable h)] at hg

theorem clearSilent_regrants (h : (s.spout j).ctl.state ≠ .armed) :
    (s.spout j).regranted ((clearSilent s).spout j) := by
  unfold clearSilent
  dsimp only
  split
  · exact Spout.regranted_refl _
  · exact joined_regrants (s := { s with silent := false }) h

/-- R170: the restart of the timer and the clearing of the flag pass over a spout that is not in ARMED and does not wait. -/
theorem noteAccepted_spout (h : (s.spout j).ctl.state ≠ .armed) (hw : (s.spout j).place ≠ .waiter) :
    (noteAccepted s).spout j = s.spout j := by
  unfold noteAccepted
  dsimp only
  split
  · exact Spout.regranted_of_ne (clearSilent_regrants h) hw
  · rfl

/-- The response's data are read only from what stands after the timer and flag. -/
theorem answers_congr {c : Instr} {h : ReqHeader} {k : RequestKind} {u : State} {st : Status} {d e : State → List Byte}
    (hde : d (noteAccepted u) = e (noteAccepted u)) (ha : s.answers c h k u st d) : s.answers c h k u st e := by
  rwa [State.answers, ← hde]

/-! ### HOLD -/

theorem hold_taken (h : (s.spout i).ctl.state = .armed ∨ (s.spout i).ctl.state = .awaitAir ∨
    (s.spout i).ctl.state = .coarse ∨ (s.spout i).ctl.state = .fine) : hold i s = (enterHeld .command i s, .ok) := by
  rcases h with h | h | h | h <;> simp only [hold, h]

theorem hold_refused (h : ¬((s.spout i).ctl.state = .armed ∨ (s.spout i).ctl.state = .awaitAir ∨
    (s.spout i).ctl.state = .coarse ∨ (s.spout i).ctl.state = .fine)) : hold i s = (s, .refusedState) := by
  cases hst : (s.spout i).ctl.state <;> simp_all [hold]

@[simp] theorem enterHeld_state (r : HeldReason) (i : SpoutId) (s : State) :
    ((enterHeld r i s).spout i).ctl.state = .held := by simp [enterHeld_spout, Spout.becomeHeld]

@[simp] theorem enterHeld_heldReason (r : HeldReason) (i : SpoutId) (s : State) :
    ((enterHeld r i s).spout i).ctl.heldReason = some r := by simp [enterHeld_spout, Spout.becomeHeld, Spout.enter]

@[simp] theorem enterHeld_place (r : HeldReason) (i : SpoutId) (s : State) :
    ((enterHeld r i s).spout i).place = .neither := by simp [enterHeld_spout, Spout.becomeHeld]

/-- A spout that has just entered HELD is still there when the response is built. -/
theorem spoutReply_enterHeld (r : HeldReason) (i : SpoutId) (s : State) :
    spoutReply i (noteAccepted (enterHeld r i s)) = [byte i.val, 9] := by
  rw [spoutReply, noteAccepted_spout (by simp) (by simp), enterHeld_state]
  rfl

end Sys2Proof.Machine

namespace Sys2Proof.Settled

open Sys2Proof.Machine

/-- Settles O45: HOLD acts by the spout's state, and its response shows HELD because neither the end of the silence nor
its grant decision moves a spout that is neither in ARMED nor waiting. -/
theorem hold : Obligations.Hold := by
  intro s h i ht
  refine ⟨fun htaken => ?_, fun _ => ⟨enterHeld_state .command i s, enterHeld_heldReason .command i s⟩, fun hnot => ?_⟩
  · exact answers_congr (spoutReply_enterHeld .command i s) (spout_answers rfl ht rfl (hold_taken htaken))
  · exact spout_answers rfl ht rfl (hold_refused hnot)

end Sys2Proof.Settled
end

section
/-! PROOFS. The chain order as a SET_CHAIN spells it (R135), and the settled statement about SET_CHAIN. -/

namespace Sys2Proof.Machine

/-! ### Chain orders and their bytes -/

/-- R135: the bytes in which a SET_CHAIN and its response spell a chain order. -/
def chainBytes (c : List SpoutId) : List Byte := c.map fun i => byte i.val

/-- The spouts among the numbers of a SET_CHAIN; a number above 3 names none. -/
def spoutsNamed (ps : List Byte) : List SpoutId := ps.filterMap fun b => spoutOfField b.toNat

theorem byte_of_spoutOfField {b : Byte} {i : SpoutId} (h : spoutOfField b.toNat = some i) : byte i.val = b := by
  unfold spoutOfField at h
  split at h
  · cases h; exact byte_toNat b
  · cases h

@[simp] theorem chainBytes_length (c : List SpoutId) : (chainBytes c).length = c.length := List.length_map _

theorem spoutsNamed_chainBytes (c : List SpoutId) : spoutsNamed (chainBytes c) = c := by
  simp [spoutsNamed, chainBytes, List.filterMap_map]

/-- Numbers that all name spouts are the bytes of the spouts they name. -/
theorem chainBytes_spoutsNamed {ps : List Byte} (h : (spoutsNamed ps).length = ps.length) :
    chainBytes (spoutsNamed ps) = ps := by
  induction ps with
  | nil => rfl
  | cons b bs ih =>
    cases hb : spoutOfField b.toNat with
    | none =>
      have hle : (spoutsNamed bs).length ≤ bs.length := List.length_filterMap_le ..
      simp only [spoutsNamed, List.filterMap_cons, hb, List.length_cons] at h hle
      omega
    | some i =>
      have hcons : spoutsNamed (b :: bs) = i :: spoutsNamed bs := by simp [spoutsNamed, hb]
      rw [hcons, List.length_cons, List.length_cons, Nat.succ_inj] at h
      rw [hcons, chainBytes, List.map_cons, byte_of_spoutOfField hb]
      exact congrArg (b :: ·) (ih h)

/-- The handler's reading of four numbers is the list of the spouts they name. -/
theorem chainOf_filterMap {ps : List Byte} (h : ps.length = 4) : (chainOf ps).filterMap id = spoutsNamed ps := by
  obtain ⟨a, b, c, d, rfl⟩ := List.length_eq_four.mp h
  rw [spoutsNamed, ← Function.id_comp fun b : Byte => spoutOfField b.toNat, ← List.filterMap_map]
  rfl

/-- R135: the handler's test is that the spouts are 0, 1, 2 and 3, each once, in any order. -/
theorem isChain_iff_perm {c : List SpoutId} : isChain c = true ↔ c.Perm [0, 1, 2, 3] := by
  have hparts : isChain c = true ↔ c.length = 4 ∧ spoutIds ⊆ c := by
    simp [isChain, List.subset_def]
  rw [hparts]
  constructor
  · rintro ⟨hlen, hsub⟩
    have hnodup : spoutIds.Nodup := by decide
    exact ((List.subperm_of_subset hnodup hsub).perm_of_length_le hlen.le).symm
  · intro hp
    exact ⟨hp.length_eq, hp.symm.subset⟩

/-! ### The handler -/

/-- R135: the bytes of a chain order put it in force. -/
theorem setChainAct_taken {c : List SpoutId} (hc : c.Perm [0, 1, 2, 3]) (s : State) :
    setChainAct (chainBytes c) s = Act.only { s with chain := c } .ok (.bytes (chainBytes c)) := by
  have hlen : (chainBytes c).length = 4 := (chainBytes_length c).trans hc.length_eq
  simp only [setChainAct, chainOf_filterMap hlen, spoutsNamed_chainBytes, hlen, isChain_iff_perm.mpr hc, and_self,
    if_true]
  rfl

/-- R135: parameters that spell no chain order change nothing. -/
theorem setChainAct_refused {ps : List Byte} (hps : ∀ c : List SpoutId, c.Perm [0, 1, 2, 3] → ps ≠ chainBytes c)
    (s : State) : setChainAct ps s = Act.only s .badParam (.bytes (chainBytes s.chain)) := by
  have hnot : ¬(ps.length = 4 ∧ isChain ((chainOf ps).filterMap id) = true) := by
    rintro ⟨hlen, hchain⟩
    rw [chainOf_filterMap hlen, isChain_iff_perm] at hchain
    exact hps _ hchain (chainBytes_spoutsNamed (hchain.length_eq.trans hlen.symm)).symm
  exact if_neg hnot

end Sys2Proof.Machine

namespace Sys2Proof.Settled

open Sys2Proof.Machine

/-- Settles O58: the handler takes exactly the bytes of the permutations of the four spouts, since a number above 3
names no spout and so leaves fewer than four. -/
theorem setChain : Obligations.SetChain := by
  intro s h ps ht hlen
  refine ⟨fun c hc hps => ?_, fun hps => ?_⟩
  · have hact : setChainAct ps s = Act.only { s with chain := c } .ok (.bytes ps) := by
      rw [hps]
      exact setChainAct_taken hc s
    exact answers_of rfl ht hlen hact rfl
  · exact answers_of rfl ht hlen (setChainAct_refused hps s) rfl

end Sys2Proof.Settled
end

section
/-! PROOFS. What the restart of the silence timer and the clearing of the silent flag come to (R170), and the settled
statement about KEEPALIVE. -/

namespace Sys2Proof.Machine

variable {s : State} {i j : SpoutId}

/-! ### Spouts that join the waiters together -/

theorem timer_of_device {s t : State} (h : t.device = s.device) : t.timer = s.timer := by
  have h' := congrArg State.timer h
  exact h'

@[simp] theorem joinWaiters_spout_same (i : SpoutId) (s : State) :
    (joinWaiters i s).spout i = ((s.spout i).enter .awaitAir).becomeWaiter := by
  simp [joinWaiters, enter]

theorem foldl_joinWaiters_device (is : List SpoutId) (s : State) :
    (is.foldl (fun u i => joinWaiters i u) s).device = s.device := by
  induction is generalizing s with
  | nil => rfl
  | cons k ks ih => exact ih (joinWaiters k s)

theorem foldl_joinWaiters_freeCount (is : List SpoutId) (s : State) :
    (is.foldl (fun u i => joinWaiters i u) s).freeCount = s.freeCount := by
  induction is generalizing s with
  | nil => rfl
  | cons k ks ih => exact ih (joinWaiters k s)

theorem foldl_joinWaiters_spout_of_mem {is : List SpoutId} (hn : is.Nodup) (h : j ∈ is) (s : State) :
    (is.foldl (fun u i => joinWaiters i u) s).spout j = ((s.spout j).enter .awaitAir).becomeWaiter := by
  induction is generalizing s with
  | nil => cases h
  | cons k ks ih =>
    obtain ⟨hk, hks⟩ := List.nodup_cons.mp hn
    rw [List.foldl_cons]
    rcases List.mem_cons.mp h with rfl | hj
    · rw [foldl_joinWaiters_spout_of_notMem hk, joinWaiters_spout_same]
    · have hne : j ≠ k := fun e => hk (e ▸ hj)
      rw [ih hks hj, joinWaiters_spout_ne hne]

/-- R170: every spout that the clearing of the flag releases has joined the waiters, and no decision has been made. -/
def State.allJoined (s : State) : State :=
  (spoutIds.filter s.releasable).foldl (fun u i => joinWaiters i u) s

theorem mem_filter_releasable : i ∈ spoutIds.filter s.releasable ↔ s.releasable i = true := by
  have hall : i ∈ spoutIds := by fin_cases i <;> decide
  simp [hall]

@[simp] theorem allJoined_device (s : State) : s.allJoined.device = s.device := foldl_joinWaiters_device _ s
@[simp] theorem allJoined_freeCount (s : State) : s.allJoined.freeCount = s.freeCount := foldl_joinWaiters_freeCount _ s

theorem allJoined_spout_of_releasable (h : s.releasable i = true) :
    s.allJoined.spout i = ((s.spout i).enter .awaitAir).becomeWaiter := by
  have hn : (spoutIds.filter s.releasable).Nodup := List.Nodup.filter _ (by decide)
  exact foldl_joinWaiters_spout_of_mem hn (mem_filter_releasable.mpr h) s

theorem allJoined_spout_of_not_releasable (h : ¬ s.releasable i = true) : s.allJoined.spout i = s.spout i :=
  foldl_joinWaiters_spout_of_notMem (mt mem_filter_releasable.mp h) s

/-! ### The clearing of the flag -/

theorem clearSilent_of_none (h : ∀ i, ¬ ({ s with silent := false } : State).releasable i = true) :
    clearSilent s = { s with silent := false } := by
  have hnil : spoutIds.filter ({ s with silent := false } : State).releasable = [] :=
    List.filter_eq_nil_iff.mpr fun i _ => h i
  simp only [clearSilent, hnil]

theorem clearSilent_of_exists (h : ∃ i, ({ s with silent := false } : State).releasable i = true) :
    clearSilent s = grantDecision ({ s with silent := false } : State).allJoined := by
  obtain ⟨i, hi⟩ := h
  unfold clearSilent
  dsimp only
  split
  · next hnil => exact absurd (mem_filter_releasable.mpr hi) (hnil ▸ List.not_mem_nil)
  · rfl

theorem clearSilent_device (s : State) : (clearSilent s).device = ({ s with silent := false } : State).device := by
  by_cases h : ∃ i, ({ s with silent := false } : State).releasable i = true
  · rw [clearSilent_of_exists h, grantDecision_device, allJoined_device]
  · rw [clearSilent_of_none (not_exists.mp h)]

/-! ### An accepted request -/

/-- R170: the timer after an accepted request. -/
def State.freshTimer (s : State) : Option Nat := if s.silenceK ≤ 6 then some 0 else none

/-- R170: the state with the timer restarted or stopped and the flag clear, before the spouts in ARMED are examined. -/
def State.awoken (s : State) : State := { s with timer := s.freshTimer, silent := false }

/-- R151, R170: with the flag clear, a spout in ARMED is released by its other two permissives. -/
theorem awoken_releasable_iff : s.awoken.releasable i = true ↔
    (s.spout i).ctl.state = .armed ∧ s.bayPermissive i = true ∧ s.probeClear i = true := by
  have hspout : s.awoken.spout i = s.spout i := rfl
  have hbay : s.awoken.bayPermissive i = s.bayPermissive i := rfl
  have hprobe : s.awoken.probeClear i = s.probeClear i := rfl
  have hsilent : s.awoken.silent = false := rfl
  simp [State.releasable, State.permitted, hspout, hbay, hprobe, hsilent]

theorem noteAccepted_of_not_silent (h : s.silent = false) : noteAccepted s = { s with timer := s.freshTimer } := by
  simp [noteAccepted, State.freshTimer, h]

theorem noteAccepted_of_silent (h : s.silent = true) :
    noteAccepted s = clearSilent { s with timer := s.freshTimer } := by
  simp [noteAccepted, State.freshTimer, h]

/-- R170: no spout in ARMED is released. -/
theorem noteAccepted_of_none (hs : s.silent = true) (h : ∀ i, ¬ s.awoken.releasable i = true) :
    noteAccepted s = s.awoken :=
  (noteAccepted_of_silent hs).trans (clearSilent_of_none h)

/-- R170: the released spouts join together, and one decision follows. -/
theorem noteAccepted_of_exists (hs : s.silent = true) (h : ∃ i, s.awoken.releasable i = true) :
    noteAccepted s = grantDecision s.awoken.allJoined :=
  (noteAccepted_of_silent hs).trans (clearSilent_of_exists h)

theorem noteAccepted_device (s : State) : (noteAccepted s).device = s.awoken.device := by
  cases h : s.silent with
  | false => rw [noteAccepted_of_not_silent h, State.awoken, ← h]
  | true => rw [noteAccepted_of_silent h, clearSilent_device, State.awoken]

@[simp] theorem noteAccepted_silent (s : State) : (noteAccepted s).silent = false :=
  silent_of_device (noteAccepted_device s)

@[simp] theorem noteAccepted_timer (s : State) : (noteAccepted s).timer = s.freshTimer :=
  timer_of_device (noteAccepted_device s)

/-! ### KEEPALIVE -/

/-- R179, R185: the data of KEEPALIVE. -/
def keepaliveBytes (s : State) : List Byte := [byte s.silenceK, if s.silent then 1 else 0]

theorem byte_flagBit_zero (b : Bool) : byte (flagBit 0 b) = if b then 1 else 0 := by cases b <;> rfl

theorem keepaliveAct_eq (ps : List Byte) (s : State) :
    keepaliveAct ps s = Act.only s (if ps = [] then .ok else .badParam) (.bytes (keepaliveBytes s)) := by
  simp only [keepaliveAct, keepaliveBytes, byte_flagBit_zero, List.length_eq_zero_iff]

/-- R179: KEEPALIVE changes nothing itself; its data are those of the state in which it was taken. -/
theorem keepalive_answers {h : ReqHeader} {ps : List Byte} {st : Status} (ht : s.takes h 0x03) (hp : ps.length ≤ 32)
    (hst : (if ps = [] then Status.ok else .badParam) = st) :
    s.answers (.keepalive h ps) h .keepalive s st fun _ => keepaliveBytes s :=
  answers_of rfl ht hp (hst ▸ keepaliveAct_eq ps s) rfl

end Sys2Proof.Machine

namespace Sys2Proof.Settled

open Sys2Proof.Machine

/-- Settles O49: KEEPALIVE leaves the state to what every accepted request does, and that is read off the spouts which the
clearing of the flag releases: none, or all of them joining the waiters before the one grant decision. -/
theorem keepaliveAndSilentFlag : Obligations.KeepaliveAndSilentFlag := by
  refine ⟨fun s h ht => ⟨?_, fun _ => noteAccepted_silent s, noteAccepted_timer s, fun ps hps hlen => ?_⟩,
    fun s => ⟨noteAccepted_of_not_silent, fun hsilent hnone => ?_, fun hsilent hsome => ?_⟩⟩
  · exact keepalive_answers ht (Nat.zero_le _) rfl
  · exact keepalive_answers ht hlen (if_neg hps)
  · exact noteAccepted_of_none hsilent fun i => mt awoken_releasable_iff.mp (hnone i)
  · have hreleased : ∃ i, s.awoken.releasable i = true := hsome.imp fun _ => awoken_releasable_iff.mpr
    refine ⟨s.awoken.allJoined, noteAccepted_of_exists hsilent hreleased, allJoined_device _, allJoined_freeCount _,
      fun i hi => ?_, fun i hi => ?_⟩
    · exact allJoined_spout_of_not_releasable (mt awoken_releasable_iff.mp hi)
    · exact allJoined_spout_of_releasable (awoken_releasable_iff.mpr hi)

end Sys2Proof.Settled
end

section
/-! PROOFS. The moves of a spout's record that have branches, each said once as a rule (R40, R72, R90), and the settled
statement that the spout records agree with the spout states (R54, R55, R56, R62). -/

set_option Elab.async false

namespace Sys2Proof.Machine

/-! ### Rules for the moves that have branches -/

/-- Marks, flags and the order sequence are no part of a property that an unmarked spout already decides. -/
theorem marked_of_unmarked {P : Spout → Prop} (hP : ∀ p : Spout, P p.unmarked = P p) {p q : Spout}
    (he : p.unmarked = q.unmarked) (h : P p) : P q := by
  rw [← hP, ← he, hP]; exact h

namespace Spout

variable {P : Spout → Prop} {p : Spout}

/-- R105: the gate shuts out of COARSE and FINE, and any other spout stays as it stands. -/
theorem shutGate_rule
    (hopen : p.ctl.state.gateOpen = true →
      P { p with gatePending := true, ctl := { p.ctl with gateDemand := 0, sentDemand := 0, floodRun := 0, airLostRun := 0 } })
    (hshut : p.ctl.state.gateOpen = false → P p) : P p.shutGate := by
  unfold shutGate
  split
  · next h => exact hopen h
  · next h => exact hshut (by simpa using h)

/-- R40: the spout stays as it stands, or begins a step from IDLE or READY with no retry wait. -/
theorem examineZeroing_rule (hstay : P p)
    (hstep : ∀ k, p.ctl.state = .idle ∨ p.ctl.state = .ready → p.zero.retryWait = none → P (p.startStep k)) :
    P p.examineZeroing := by
  unfold examineZeroing
  split
  · next h =>
    simp only [zeroingDue, Bool.and_eq_true, Bool.or_eq_true, beq_iff_eq, Option.isNone_iff_eq_none] at h
    exact hstep _ h.1.1 h.1.2
  · exact hstay

/-- R72: the head order stays or is retired, and the spout settles by the queue that is left. -/
theorem moveOn_rule (hstay : P p.settle) (hretire : ∀ d, P (p.retireHead d).settle) : P p.moveOn := by
  unfold moveOn
  split
  · exact hstay
  · split
    · exact hstay
    · exact hretire _

/-- R43: without a step nothing happens; with one the spout returns to its origin and waits. -/
theorem abandonStep_rule (hstay : P p)
    (hback : ∀ st, p.zero.step = some st →
      P { p.enter st.origin.state with zero := { p.zero with step := none, retryWait := some 400 } }) :
    P p.abandonStep := by
  unfold abandonStep endStep
  split
  · next st h => simpa only [h] using hback st h
  · exact hstay

/-- R100: the regulator moves the ratio, no higher than 1000‰, and nothing else. -/
theorem regulate_eq_ratio (p : Spout) :
    ∃ ratio, ratio ≤ max 1000 p.ctl.ratio ∧ p.regulate = { p with ctl := { p.ctl with ratio := ratio } } := by
  unfold regulate
  split
  · split
    · refine ⟨_, ?_, rfl⟩
      split
      · omega
      · split <;> omega
    · exact ⟨p.ctl.ratio, by omega, rfl⟩
  · exact ⟨p.ctl.ratio, by omega, rfl⟩

/-- R99: a pacing point, with the gate shut and with the gate open. -/
theorem pace_rule
    (hshut : p.ctl.state.gateOpen = false → P { p with gatePending := true, ctl := { p.ctl with pacing := 0 } })
    (hopen : p.ctl.state.gateOpen = true → ∀ ratio, ratio ≤ max 1000 p.ctl.ratio →
      P ({ p with gatePending := true, ctl := { p.ctl with pacing := 0, ratio := ratio } } : Spout).demandUpdate) :
    P p.pace := by
  unfold pace
  dsimp only
  split
  · next hg =>
    obtain ⟨ratio, hle, hr⟩ := regulate_eq_ratio { p with ctl := { p.ctl with pacing := 0 } }
    rw [hr]
    exact hopen hg ratio hle
  · next hg => exact hshut (by simpa using hg)

end Spout

theorem Origin.state_eq (o : Origin) : o.state = .idle ∨ o.state = .ready := by cases o <;> simp [Origin.state]

/-! ### The parts of the spout record -/

namespace Spout

variable {p : Spout} {st : SpoutState}

/-- R54: the parts of the record are those of a spout in state `st`. -/
def recordFor (st : SpoutState) (p : Spout) : Prop := { p with ctl := { p.ctl with state := st } }.recordSound

theorem recordFor_state (h : p.recordSound) : p.recordFor p.ctl.state := h
theorem recordSound_enter (h : p.recordFor st) : (p.enter st).recordSound := h

/-- R55: no part of the record stands. -/
def bare (p : Spout) : Prop :=
  p.zero.step = none ∧ p.ctl.heldReason = none ∧ p.ctl.faultKind = none ∧ p.ctl.endReason = none ∧
    p.ctl.openComp = none ∧ p.ctl.resumePhase = none

theorem recordFor_of_bare (h : p.bare) (hst : st = .parked ∨ st = .idle ∨ st = .ready) : p.recordFor st := by
  obtain ⟨hstep, hheld, hfault, hend, hcomp, hphase⟩ := h
  rcases hst with rfl | rfl | rfl <;>
    simp [recordFor, recordSound, stepSound, SpoutState.compartmentOpen, hstep, hheld, hfault, hend, hcomp, hphase]

theorem bare_of_recordSound (h : p.recordSound)
    (hst : p.ctl.state = .parked ∨ p.ctl.state = .idle ∨ p.ctl.state = .ready) : p.bare := by
  obtain ⟨hstep, hheld, hfault, hend, hcomp, hphase, -⟩ := h
  rcases hst with hst | hst | hst <;>
    simp_all [bare, stepSound, SpoutState.compartmentOpen]

theorem recordSound_startStep (k : StepKind) (h : p.bare) : (p.startStep k).recordSound := by
  obtain ⟨hstep, hheld, hfault, hend, hcomp, hphase⟩ := h
  simp [startStep, recordSound, stepSound, SpoutState.compartmentOpen, enter, hheld, hfault, hend, hcomp, hphase]

theorem recordSound_examineZeroing (h : p.recordSound) : p.examineZeroing.recordSound :=
  examineZeroing_rule h fun k hst _ => recordSound_startStep k (bare_of_recordSound h (.inr hst))

theorem recordSound_settle (h : p.bare) : p.settle.recordSound :=
  recordSound_examineZeroing (recordSound_enter (recordFor_of_bare h (by split <;> simp)))

theorem recordSound_moveOn (h : p.bare) : p.moveOn.recordSound :=
  moveOn_rule (recordSound_settle h) fun _ => recordSound_settle h

/-! ### A recorded result -/

variable (path : RecordPath)

/-- A recording writes the ring, the curve and the marks, and otherwise only what belongs to the open compartment. -/
theorem recordResult_rule {P : Spout → Prop} (hnone : p.ctl.openComp = none → P p)
    (hsome : ∀ c alerts, p.ctl.openComp = some c → P { p.closeCompartment c path with alerts := alerts }) :
    P (p.recordResult path) := by
  unfold recordResult
  split
  · next h => exact hnone h
  · next c h =>
    unfold raiseSwitchAtEnd
    split <;> exact hsome c _ h

/-- R55, R90: after a recording nothing of the compartment stands. -/
theorem bare_recordResult (hstep : p.zero.step = none) (hheld : p.ctl.heldReason = none) (hfault : p.ctl.faultKind = none)
    (hnone : p.ctl.openComp = none → p.ctl.endReason = none ∧ p.ctl.resumePhase = none) : (p.recordResult path).bare := by
  apply recordResult_rule
  · intro h
    exact ⟨hstep, hheld, hfault, (hnone h).1, h, (hnone h).2⟩
  · intro c _ _
    exact ⟨hstep, hheld, hfault, rfl, rfl, rfl⟩

/-! ### A spout with a compartment open -/

/-- R54: the parts of the record in every state with a compartment open. -/
def loading (p : Spout) : Prop :=
  p.zero.step = none ∧ p.ctl.faultKind = none ∧ p.ctl.openComp.isSome = true ∧ p.ctl.resumePhase.isSome = true

/-- R54, R62: with a compartment open, the held reason, the end reason and the resume phase tell the state. -/
theorem recordFor_iff_of_open (hst : st.compartmentOpen = true) :
    p.recordFor st ↔ p.loading ∧ (p.ctl.heldReason.isSome = true ↔ st = .held) ∧
      (p.ctl.endReason.isSome = true ↔ st = .tailing) ∧ (st = .coarse → p.ctl.resumePhase = some .coarse) ∧
      (st = .fine → p.ctl.resumePhase = some .fine) := by
  cases st <;> simp [SpoutState.compartmentOpen] at hst <;>
    simp [recordFor, recordSound, stepSound, SpoutState.compartmentOpen, loading] <;> tauto

theorem recordFor_of_open (hst : p.ctl.state.compartmentOpen = true) (h : p.recordSound) :
    p.loading ∧ (p.ctl.heldReason.isSome = true ↔ p.ctl.state = .held) ∧
      (p.ctl.endReason.isSome = true ↔ p.ctl.state = .tailing) ∧ (p.ctl.state = .coarse → p.ctl.resumePhase = some .coarse) ∧
      (p.ctl.state = .fine → p.ctl.resumePhase = some .fine) :=
  (recordFor_iff_of_open hst).mp (recordFor_state h)

theorem recordSound_shutGate (h : p.recordSound) : p.shutGate.recordSound :=
  shutGate_rule (fun _ => h) fun _ => h

theorem recordSound_giveUpAir (h : p.recordSound) : p.giveUpAir.recordSound := by
  unfold giveUpAir; split <;> exact h

@[simp] theorem shutGate_state : p.shutGate.ctl.state = p.ctl.state := by unfold shutGate; split <;> rfl

theorem recordSound_becomeHeld (r : HeldReason)
    (hst : p.ctl.state = .armed ∨ p.ctl.state = .awaitAir ∨ p.ctl.state.gateOpen = true) (h : p.recordSound) :
    (p.becomeHeld r).recordSound := by
  have hopen : p.ctl.state.compartmentOpen = true := by
    rcases hst with hst | hst | hst <;> revert hst <;> cases p.ctl.state <;> simp [SpoutState.gateOpen, SpoutState.compartmentOpen]
  have hend : p.ctl.state ≠ .tailing := by rintro e; simp [e, SpoutState.gateOpen] at hst
  obtain ⟨hload, -, htail, -⟩ := recordFor_of_open hopen h
  refine (recordFor_iff_of_open (st := .held) rfl).mpr ⟨hload, ⟨fun _ => rfl, fun _ => rfl⟩, ?_, by simp, by simp⟩
  exact ⟨fun e => absurd (htail.mp e) hend, by simp⟩

theorem recordSound_becomeTailing (r : EndReason)
    (hst : p.ctl.state.gateOpen = true ∨ p.ctl.state = .held) (h : p.recordSound) : (p.becomeTailing r).recordSound := by
  have hopen : p.ctl.state.compartmentOpen = true := by
    rcases hst with hst | hst <;> revert hst <;> cases p.ctl.state <;> simp [SpoutState.gateOpen, SpoutState.compartmentOpen]
  obtain ⟨hload, -⟩ := recordFor_of_open hopen h
  exact (recordFor_iff_of_open (st := .tailing) rfl).mpr ⟨hload, by simp, ⟨fun _ => rfl, fun _ => rfl⟩, by simp, by simp⟩

theorem openComp_none_resumePhase (h : p.recordSound) (hc : p.ctl.openComp = none) : p.ctl.resumePhase = none := by
  obtain ⟨-, -, -, -, hcomp, hphase, -⟩ := h
  rw [hc] at hcomp
  simpa [← hcomp] using hphase

theorem recordSound_fault (kind : FaultKind) (h : p.recordSound) : (p.fault kind).recordSound := by
  unfold fault
  apply recordResult_rule (p := p.dropZeroWork) (P := fun q => (q.becomeFaulted kind).recordSound)
  · intro hc
    have hphase : p.ctl.resumePhase = none := openComp_none_resumePhase h hc
    have hcomp : p.ctl.openComp = none := hc
    simp [recordSound, stepSound, becomeFaulted, dropZeroWork, enter, SpoutState.compartmentOpen, hphase, hcomp]
  · intro c alerts _
    simp [recordSound, stepSound, becomeFaulted, dropZeroWork, closeCompartment, enter, SpoutState.compartmentOpen]

theorem recordSound_enter_of_open {st : SpoutState} (hst : p.ctl.state.compartmentOpen = true)
    (hto : st = .armed ∨ st = .awaitAir) (hheld : p.ctl.heldReason = none) (hend : p.ctl.state ≠ .tailing)
    (h : p.recordSound) : (p.enter st).recordSound := by
  obtain ⟨hload, -, htail, -⟩ := recordFor_of_open hst h
  have hnone : p.ctl.endReason = none := by simpa [hend] using htail
  refine recordSound_enter ((recordFor_iff_of_open (by rcases hto with rfl | rfl <;> rfl)).mpr ⟨hload, ?_⟩)
  rcases hto with rfl | rfl <;> simp [hheld, hnone]

theorem heldReason_none (h : p.recordSound) (hst : p.ctl.state ≠ .held) : p.ctl.heldReason = none := by
  obtain ⟨-, hheld, -⟩ := h
  simpa [hst] using hheld

theorem recordSound_openGate (hst : p.ctl.state = .awaitAir) (h : p.recordSound) : p.openGate.recordSound := by
  obtain ⟨hload, hheld, hend, -⟩ := recordFor_of_open (by simp [hst, SpoutState.compartmentOpen]) h
  obtain ⟨ph, hph⟩ := Option.isSome_iff_exists.mp hload.2.2.2
  have hg : p.openGate.recordSound = p.recordFor (p.ctl.resumePhase.getD .coarse).state := rfl
  rw [hg, hph, recordFor_iff_of_open (by cases ph <;> rfl)]
  cases ph <;> simp_all [Phase.state]

/-- R83, R109: the resume phase becomes FINE with the state. -/
theorem recordFor_fine (hst : p.ctl.state = .coarse) (h : p.recordSound) :
    ({ p with ctl := { p.ctl with resumePhase := some .fine } }).recordFor .fine := by
  obtain ⟨⟨hstep, hfault, hcomp, -⟩, hheld, hend, -⟩ := recordFor_of_open (by simp [hst, SpoutState.compartmentOpen]) h
  simp only [hst, reduceCtorEq, iff_false] at hheld hend
  exact (recordFor_iff_of_open rfl).mpr ⟨⟨hstep, hfault, hcomp, rfl⟩, by simpa using hheld, by simpa using hend, by simp, by simp⟩

theorem recordSound_endStep {st : ZeroStep} (hs : p.zero.step = some st) (h : p.recordSound) : p.endStep.recordSound := by
  obtain ⟨hstep, hheld, hfault, hend, hcomp, hphase, -⟩ := h
  have hst : p.ctl.state = .zeroing := hstep.mp (by simp [hs])
  simp only [hst, SpoutState.compartmentOpen, reduceCtorEq, iff_false] at hheld hfault hend hcomp hphase
  have hbare : ({ p with zero := { p.zero with step := none } } : Spout).bare := by simp_all [bare]
  unfold endStep
  rw [hs]
  exact recordFor_of_bare hbare (.inr st.origin.state_eq)

theorem recordSound_openWith (o : Order) (rest : List Order)
    (hst : p.ctl.state = .ready ∨ p.ctl.state = .zeroing) (h : p.recordSound) : (p.openWith o rest).recordSound := by
  obtain ⟨-, -, hfault, -⟩ := h
  have hnone : p.ctl.faultKind = none := by rcases hst with e | e <;> simpa [e] using hfault
  exact (recordFor_iff_of_open (st := .armed) rfl).mpr ⟨⟨rfl, hnone, rfl, rfl⟩, by simp⟩

theorem recordSound_openCompartment (hst : p.ctl.state = .ready ∨ p.ctl.state = .zeroing) (h : p.recordSound) :
    p.openCompartment.recordSound := by
  unfold openCompartment
  split
  · exact h
  · exact recordSound_openWith _ _ hst h

theorem recordSound_abandonStep (h : p.recordSound) : p.abandonStep.recordSound := by
  unfold abandonStep
  split
  · next st hs => exact recordSound_endStep hs h
  · exact h

theorem recordSound_takeSample (raw : Nat) (h : p.recordSound) : (p.takeSample raw).recordSound := by
  simpa [recordSound, stepSound, takeSample] using h

/-- R42, R50: a judged candidate changes the zero and the owed count, or a mark. -/
theorem judge_rule {P : Spout → Prop} {now : Bool} {sum : Nat}
    (haccept : distance (candidateZero sum) p.zero.zero ≤ p.par.driftLimit →
      P { p with zero := { p.zero with zero := candidateZero sum, owed := 0 } })
    (hreject : ∀ d, P (p.raise .zeroRejected d)) : P (p.judge now sum) := by
  unfold judge
  dsimp only
  split
  · next h => exact haccept h
  · exact hreject _

/-- R41: a completed NORMAL step ends after its set has grown, been accepted or been rejected. -/
theorem completeNormal_rule {P : Spout → Prop} {st : ZeroStep}
    (hgrow : p.zero.stepsDone + 1 < p.zero.cadence.stepsPerSet →
      P ({ p with zero := { p.zero with
        owed := p.zero.owed - 1, partialSum := p.zero.partialSum + st.sum, stepsDone := p.zero.stepsDone + 1 } }).endStep)
    (haccept : p.zero.cadence.stepsPerSet ≤ p.zero.stepsDone + 1 →
      P ({ p with zero := { p.zero with
        zero := candidateZero (p.zero.partialSum + st.sum), owed := 0, partialSum := 0, stepsDone := 0 } }).endStep)
    (hreject : p.zero.cadence.stepsPerSet ≤ p.zero.stepsDone + 1 → ∀ alerts,
      P ({ p with
        alerts := alerts, zero := { p.zero with owed := p.zero.owed - 1, partialSum := 0, stepsDone := 0 } }).endStep) :
    P (p.completeNormal st) := by
  unfold completeNormal
  dsimp only
  split
  · next hfull =>
    unfold judge
    dsimp only
    split
    · exact haccept hfull
    · exact hreject hfull _
  · next hshort => exact hgrow (by omega)

theorem recordSound_setCadence (c : Cadence) (h : p.recordSound) : (p.setCadence c).recordSound := by
  have hz : ∀ b, ({ p with zero := p.zero.changeCadence c b } : Spout).recordSound := by
    intro b
    unfold ZeroTracker.changeCadence
    split <;> exact h
  unfold setCadence
  split
  · exact h
  · apply recordSound_examineZeroing
    unfold dropNormalStep
    split
    · next st hs =>
      split
      · exact recordSound_endStep hs (hz _)
      · exact hz _
    · exact hz _

theorem recordSound_setParam (q : SpoutParam) (v : Nat) (h : p.recordSound) : (p.setParam q v).recordSound := by
  cases q <;> try exact h
  case minOpening =>
    simp only [setParam, setMinOpening]
    split <;> exact h
  case zeroMode => exact recordSound_setCadence _ h

theorem recordSound_readyWhileZeroing (hst : p.ctl.state = .zeroing) (h : p.recordSound) :
    p.readyWhileZeroing.recordSound := by
  have hbare : ({ p with zero := { p.zero with step := none } } : Spout).bare := by
    obtain ⟨-, hheld, hfault, hend, hcomp, hphase, -⟩ := h
    simp_all [bare, SpoutState.compartmentOpen]
  have hready := recordSound_enter (recordFor_of_bare (st := .ready) hbare (by simp))
  unfold readyWhileZeroing
  split
  · next st hs =>
    split
    · simpa [recordSound, stepSound, hs] using h
    · exact recordSound_examineZeroing hready
  · next hs =>
    have hp : ({ p with zero := { p.zero with step := none } } : Spout) = p := by rw [← hs]
    rw [hp] at hready
    exact recordSound_examineZeroing hready

/-- A spout in PARKED, IDLE or READY goes to IDLE or READY with its zero tracker changed but for the step. -/
theorem recordSound_enter_of_rest {st : SpoutState} (hst : p.ctl.state = .parked ∨ p.ctl.state = .idle ∨ p.ctl.state = .ready)
    (hto : st = .parked ∨ st = .idle ∨ st = .ready) (h : p.recordSound) : (p.enter st).recordSound :=
  recordSound_enter (recordFor_of_bare (bare_of_recordSound h hst) hto)

theorem recordSound_join (o : Order) (h : p.recordSound) : (p.join o).recordSound := by
  have hq : ({ p with queue := p.queue ++ [o] } : Spout).recordSound := h
  unfold join
  dsimp only
  split
  · unfold newHead
    split
    case h_1 hst => exact recordSound_examineZeroing (recordSound_enter_of_rest (.inl hst) (.inr (.inr rfl)) hq)
    case h_2 hst => exact recordSound_examineZeroing (recordSound_enter_of_rest (.inr (.inl hst)) (.inr (.inr rfl)) hq)
    case h_3 hst => exact recordSound_readyWhileZeroing hst hq
    all_goals exact hq
  · exact hq

theorem recordSound_cancelHead {q : Spout} {tag : Nat} (hq : p.cancelHead tag = some q) (h : p.recordSound) : q.recordSound := by
  unfold cancelHead at hq
  split at hq <;> cases hq
  · next hst => exact recordSound_settle (p := (p.removeOrder tag).clearProceed) (bare_of_recordSound h (.inr (.inr hst)))
  · simpa [recordSound, stepSound, headLeftZeroing, clearProceed, removeOrder] using h
  · exact h

theorem recordSound_markAborted (h : p.recordSound) : p.markAborted.recordSound := by
  unfold markAborted; split <;> exact h

@[simp] theorem markAborted_state : p.markAborted.ctl.state = p.ctl.state := by unfold markAborted; split <;> rfl

theorem recordSound_abortTail (hst : p.ctl.state = .tailing) (h : p.recordSound) : p.abortTail.recordSound := by
  have hst' : p.markAborted.ctl.state = .tailing := by simp [hst]
  obtain ⟨hload, hheld, -⟩ :=
    recordFor_of_open (by rw [hst']; rfl) (recordSound_markAborted h)
  have hend : p.abortTail.recordSound = p.abortTail.recordFor p.markAborted.ctl.state := rfl
  rw [hend, hst', recordFor_iff_of_open rfl]
  rw [hst'] at hheld
  exact ⟨hload, hheld, ⟨fun _ => rfl, fun _ => rfl⟩, by simp, by simp⟩

/-- R90: with a compartment open, outside HELD, a recording leaves nothing of it, and the spout moves on. -/
theorem recordSound_recordResult_moveOn (hst : p.ctl.state.compartmentOpen = true) (hheld : p.ctl.state ≠ .held)
    (h : p.recordSound) : (p.recordResult path).moveOn.recordSound := by
  obtain ⟨⟨hstep, hfault, hcomp, -⟩, -⟩ := recordFor_of_open hst h
  exact recordSound_moveOn (bare_recordResult path hstep (heldReason_none h hheld) hfault fun e => by simp [e] at hcomp)

theorem recordSound_leaveHeld (hst : p.ctl.state = .held) (h : p.recordSound) : p.leaveHeld.recordSound := by
  obtain ⟨hload, -, htail, -⟩ := recordFor_of_open (by simp [hst, SpoutState.compartmentOpen]) h
  have hend : p.ctl.endReason = none := by simpa [hst] using htail
  exact (recordFor_iff_of_open (st := .awaitAir) rfl).mpr ⟨hload, by simp, by simp [hend], by simp, by simp⟩

theorem recordSound_park (hst : p.ctl.state = .idle ∨ p.ctl.state = .zeroing) (h : p.recordSound) : p.park.recordSound := by
  obtain ⟨-, hheld, hfault, hend, hcomp, hphase, -⟩ := h
  refine recordFor_of_bare (st := .parked)
    (p := { p with zero := { p.zero with step := none, retryWait := none } }) ?_ (.inl rfl)
  rcases hst with e | e <;> simp_all [bare, SpoutState.compartmentOpen]

theorem recordSound_clearFault (hst : p.ctl.state = .faulted) (h : p.recordSound) : p.clearFault.recordSound := by
  obtain ⟨hstep, hheld, -, hend, hcomp, hphase, -⟩ := h
  exact recordSound_moveOn (by simp_all [bare, stepSound, SpoutState.compartmentOpen])

theorem recordSound_zeroNow (hst : p.ctl.state = .idle ∨ p.ctl.state = .ready) (h : p.recordSound) : p.zeroNow.recordSound := by
  have hbare := bare_of_recordSound h (.inr hst)
  unfold zeroNow
  split <;> exact recordSound_startStep _ hbare

theorem recordSound_restart : p.restart.recordSound := by
  simp [recordSound, stepSound, restart, ZeroTracker.restart, ZeroTracker.reset, Control.restart, Control.reset,
    SpoutState.compartmentOpen]

theorem recordSound_reset : Spout.reset.recordSound := by
  simp [recordSound, stepSound, reset, ZeroTracker.reset, Control.reset, SpoutState.compartmentOpen]

end Spout

/-! ### Every change of a spout's record -/

theorem keeps_recordSound (s : State) : Keeps s fun _ p => p.recordSound where
  marked _ _ _ e h := marked_of_unmarked (fun _ => rfl) e h
  takeGrant _ _ _ h := h
  openGate _ _ hst _ h := Spout.recordSound_openGate hst h
  held _ _ r hst h :=
    Spout.recordSound_becomeHeld r (by simpa using hst) (Spout.recordSound_giveUpAir (Spout.recordSound_shutGate h))
  tailing _ _ r hst h :=
    Spout.recordSound_becomeTailing r (by simpa using hst) (Spout.recordSound_giveUpAir (Spout.recordSound_shutGate h))
  fault _ _ k _ _ h := Spout.recordSound_fault k (Spout.recordSound_giveUpAir (Spout.recordSound_shutGate h))
  backToArmed _ p hst h :=
    Spout.recordSound_enter_of_open (by simp [hst, SpoutState.compartmentOpen]) (.inl rfl)
      (Spout.heldReason_none (Spout.recordSound_giveUpAir h) (by simp [hst])) (by simp [hst]) (Spout.recordSound_giveUpAir h)
  enterAwait _ p hst h :=
    have h' : (p.enter .awaitAir).recordSound := Spout.recordSound_enter_of_open (by simp [hst, SpoutState.compartmentOpen]) (.inr rfl)
      (Spout.heldReason_none h (by simp [hst])) (by simp [hst]) h
    h'
  acceptForce _ _ _ h := h
  countMissed _ _ h := h
  starveChannel _ _ h := h
  workGood _ p raw hs _ h := by
    unfold Spout.workGood Spout.watchRange
    dsimp only
    repeat' split
    all_goals exact h
  workFill _ _ h := h
  countDuration _ p h := by unfold Spout.countDuration; split <;> exact h
  enterFineBand _ _ hst h := Spout.recordFor_fine hst h
  floodDrop _ _ hst h := by
    have h' := Spout.recordFor_fine hst h
    exact h'
  tickFlood _ _ _ _ _ h := h
  countPacing _ p h := by
    unfold Spout.countPacing
    split
    · exact Spout.pace_rule (fun _ => h) fun _ _ _ => h
    · exact h
  pace _ _ h := Spout.pace_rule (fun _ => h) fun _ _ _ => h
  tickAirLost _ _ _ _ _ h := h
  tickPressure _ _ _ _ h := h
  tickStuck _ _ _ _ h := h
  countTail _ p hst h := by
    unfold Spout.countTail Spout.endTail
    have hend := fun b => Spout.recordSound_recordResult_moveOn (.tail b) (by simp [hst, SpoutState.compartmentOpen]) (by simp [hst]) h
    split
    · exact hend _
    · split
      · exact hend _
      · exact h
  endTail _ _ b hst h :=
    Spout.recordSound_recordResult_moveOn (.tail b) (by simp [hst, SpoutState.compartmentOpen]) (by simp [hst]) h
  countReport _ p h := by unfold Spout.countReport; split <;> exact h
  reportExpires _ _ h := h
  oweStep _ _ h := h
  tickDue _ _ _ _ h := h
  endRetry _ _ h := h
  tickRetry _ _ _ h := h
  examineZeroing _ _ h := Spout.recordSound_examineZeroing h
  abandonStep _ _ h := Spout.recordSound_abandonStep h
  takeSample _ _ raw _ _ _ _ h := Spout.recordSound_takeSample raw h
  completeNormal _ p st raw hs _ _ _ h := by
    have ht : (p.takeSample raw).zero.step = some (st.take raw) := by simp [Spout.takeSample, hs]
    have h' := Spout.recordSound_takeSample raw h
    exact Spout.completeNormal_rule (fun _ => Spout.recordSound_endStep ht h') (fun _ => Spout.recordSound_endStep ht h')
      fun _ _ => Spout.recordSound_endStep ht h'
  completeZeroNow _ p st raw hs _ _ _ h := by
    have ht : (p.takeSample raw).zero.step = some (st.take raw) := by simp [Spout.takeSample, hs]
    have h' := Spout.recordSound_takeSample raw h
    exact Spout.judge_rule (P := fun q => q.endStep.recordSound) (fun _ => Spout.recordSound_endStep ht h')
      fun _ => Spout.recordSound_endStep ht h'
  completeMakeup _ p st raw hs _ _ _ h := by
    have ht : (p.takeSample raw).zero.step = some (st.take raw) := by simp [Spout.takeSample, hs]
    exact Spout.recordSound_endStep ht (Spout.recordSound_takeSample raw h)
  openReady _ _ hst h := Spout.recordSound_openCompartment (.inl hst) h
  openZeroing _ _ _ hst _ _ h := Spout.recordSound_openCompartment (.inr hst) h
  setParam _ q _ _ h := Spout.recordSound_setParam q _ h
  written _ _ _ _ _ h := h
  failSwitch _ _ h := h
  deferSwitch _ _ _ h := h
  switchNow _ _ _ h := h
  mapForce _ _ h := h
  join _ _ _ _ _ _ _ _ _ h := Spout.recordSound_join _ h
  removeOrder _ _ _ h := h
  cancelHead _ _ _ _ hq h := Spout.recordSound_cancelHead hq h
  markProceed _ _ h := h
  endAborted i hst h :=
    Spout.recordSound_recordResult_moveOn .aborted (by rcases hst with e | e <;> simp [e, SpoutState.compartmentOpen])
      (by rcases hst with e | e <;> simp [e]) (Spout.recordSound_giveUpAir (Spout.recordSound_markAborted h))
  abortLoading _ hst h :=
    Spout.recordSound_becomeTailing _ (by simpa using hst)
      (Spout.recordSound_giveUpAir (Spout.recordSound_shutGate (Spout.recordSound_markAborted h)))
  abortTail _ hst h := Spout.recordSound_abortTail hst h
  abortReady _ hst h := Spout.recordSound_settle (Spout.bare_of_recordSound h (.inr (.inr hst)))
  resumeWaits _ hst h := by
    have h' := Spout.recordSound_leaveHeld hst h
    exact h'
  resumeArmed _ hst h :=
    have h' := Spout.recordSound_giveUpAir (Spout.recordSound_leaveHeld hst h)
    Spout.recordSound_enter_of_open (by simp [Spout.leaveHeld, SpoutState.compartmentOpen]) (.inl rfl)
      (Spout.heldReason_none h' (by simp [Spout.leaveHeld])) (by simp [Spout.leaveHeld]) h'
  resumeHeld _ hst h :=
    Spout.recordSound_becomeHeld .bay (by simp [Spout.leaveHeld])
      (Spout.recordSound_giveUpAir (Spout.recordSound_shutGate (Spout.recordSound_leaveHeld hst h)))
  park _ hst h := Spout.recordSound_park (hst.imp_right And.left) h
  unpark _ hst _ h :=
    Spout.recordSound_examineZeroing (Spout.recordSound_enter_of_rest (.inl hst) (.inr (.inl rfl)) h)
  clearFault _ hst h := Spout.recordSound_clearFault hst h
  zeroNow _ hst h := Spout.recordSound_zeroNow hst h
  restart _ _ _ := Spout.recordSound_restart
  reset _ := Spout.recordSound_reset

end Sys2Proof.Machine

namespace Sys2Proof.Settled

open Sys2Proof.Machine

/-- Settles O6: every change of a spout's record keeps the parts of the record with the state. -/
theorem recordKept : Obligations.RecordKept :=
  fun _ _ h he => step_keeps (P := fun _ p => p.recordSound) keeps_recordSound h he

end Sys2Proof.Settled
end

section
/-! PROOFS. One law for properties of a spout at rest: outside AWAIT_AIR, COARSE and FINE the moves between the states of a
loading cycle (R56) keep any property whose part that does not tell the state they keep. -/

set_option Elab.async false

namespace Sys2Proof.Machine

/-- R56: the states in which a spout neither waits for air nor loads nor takes a zero step. -/
def SpoutState.restful (st : SpoutState) : Prop := st ≠ .zeroing ∧ st ≠ .awaitAir ∧ st.gateOpen = false

/-- `Q` is what the property `P` asks of a spout at rest besides its state and its step: every move to a state of rest asks
for `Q` and gives `P`, and `Q` survives what those moves change. -/
structure Rests (P Q : Spout → Prop) : Prop where
  stepSound : ∀ p, P p → p.stepSound
  marked : ∀ p q : Spout, p.unmarked = q.unmarked → P p → P q
  toRest : ∀ p st, st.restful → p.zero.step = none → Q p → P (p.enter st)
  toStep : ∀ p k, Q p → P (p.startStep k)
  atRest : ∀ p, p.ctl.state ≠ .parked → p.ctl.state ≠ .awaitAir → p.ctl.state.gateOpen = false → P p → Q p
  released : ∀ p, p.ctl.state ≠ .parked → P p → Q p.shutGate.giveUpAir
  giveUp : ∀ p, Q p → Q p.giveUpAir
  enter : ∀ p st, Q p → Q (p.enter st)
  zeroWork : ∀ (p : Spout) step wait mark, wait = p.zero.retryWait ∨ wait = none ∨ wait = some 400 → Q p →
    Q { p with zero := { p.zero with step := step, retryWait := wait, pendingProceed := mark } }
  parts : ∀ (p : Spout) held fault reason, Q p →
    Q { p with ctl := { p.ctl with heldReason := held, faultKind := fault, endReason := reason } }
  tail : ∀ (p : Spout) held reason mass flow, Q p →
    Q { p with ctl := { p.ctl with
      heldReason := held, endReason := reason, massAtClose := mass, flowAtClose := flow, tailAge := 0, settleRun := 0 } }
  unstuck : ∀ p : Spout, Q p → Q { p with ctl := { p.ctl with stuckRun := 0 } }
  close : ∀ (p : Spout) c path alerts, Q p → Q { p.closeCompartment c path with alerts := alerts }
  queue : ∀ (p : Spout) queue alerts, (∀ o ∈ queue, ∃ o' ∈ p.queue, o'.cap = o.cap) → Q p →
    Q { p with queue := queue, alerts := alerts }
  requeue : ∀ (p : Spout) queue, (∀ o ∈ queue, ∃ o' ∈ p.queue, o'.cap = o.cap) → P p → P { p with queue := queue }
  reorigin : ∀ (p : Spout) st origin, p.zero.step = some st → P p →
    P { p with zero := { p.zero with step := some { st with origin := origin } } }
  proceed : ∀ (p : Spout) mark, P p → P { p with zero := { p.zero with pendingProceed := mark } }
  opened : ∀ (p : Spout) o rest, p.queue = o :: rest → Q p → P (p.openWith o rest)

theorem stepSound_none {p : Spout} (h : p.stepSound) (hst : p.ctl.state ≠ .zeroing) : p.zero.step = none := by
  rw [Spout.stepSound] at h
  simpa [hst] using h

@[simp] theorem Spout.shutGate_zero (p : Spout) : p.shutGate.zero = p.zero := by unfold Spout.shutGate; split <;> rfl
@[simp] theorem Spout.giveUpAir_zero (p : Spout) : p.giveUpAir.zero = p.zero := by unfold Spout.giveUpAir; split <;> rfl

theorem retireHead_caps (p : Spout) : ∀ o ∈ p.queue.tail, ∃ o' ∈ p.queue, o'.cap = o.cap :=
  fun o ho => ⟨o, List.mem_of_mem_tail ho, rfl⟩

theorem markAborted_eq_queue (p : Spout) : ∃ queue : List Order, (∀ o ∈ queue, ∃ o' ∈ p.queue, o'.cap = o.cap) ∧
    p.markAborted = { p with queue := queue } := by
  unfold Spout.markAborted
  split
  · exact ⟨p.queue, fun o ho => ⟨o, ho, rfl⟩, rfl⟩
  · next o rest hq =>
    refine ⟨{ o with aborted := true } :: rest, fun x hx => ?_, rfl⟩
    rw [hq]
    rcases List.mem_cons.mp hx with rfl | hx
    · exact ⟨o, List.mem_cons_self, rfl⟩
    · exact ⟨x, List.mem_cons_of_mem _ hx, rfl⟩

namespace Rests

variable {P Q : Spout → Prop} (R : Rests P Q) {p : Spout}
include R

theorem step_none (hst : p.ctl.state ≠ .zeroing) (h : P p) : p.zero.step = none :=
  stepSound_none (R.stepSound p h) hst

theorem settle (hstep : p.zero.step = none) (h : Q p) : P p.settle := by
  have hst : (if p.queue.isEmpty then SpoutState.idle else .ready).restful := by split <;> simp [SpoutState.restful, SpoutState.gateOpen]
  exact Spout.examineZeroing_rule (R.toRest _ _ hst hstep h) fun k _ _ => R.toStep _ k (R.enter _ _ h)

theorem moveOn (hstep : p.zero.step = none) (h : Q p) : P p.moveOn :=
  Spout.moveOn_rule (R.settle hstep h) fun _ => R.settle hstep (R.queue p _ _ (retireHead_caps p) h)

theorem examineZeroing (h : P p) : P p.examineZeroing :=
  Spout.examineZeroing_rule h fun k hst _ =>
    R.toStep _ k (R.atRest p (by rcases hst with e | e <;> simp [e]) (by rcases hst with e | e <;> simp [e])
      (by rcases hst with e | e <;> rw [e] <;> rfl) h)

theorem origin_restful (o : Origin) : o.state.restful := by
  cases o <;> simp [Origin.state, SpoutState.restful, SpoutState.gateOpen]

theorem inZeroing {st : ZeroStep} (hs : p.zero.step = some st) (h : P p) : p.ctl.state = .zeroing :=
  (R.stepSound p h).mp (by simp [hs])

theorem atStep {st : ZeroStep} (hs : p.zero.step = some st) (h : P p) : Q p := by
  have e := R.inZeroing hs h
  exact R.atRest p (by simp [e]) (by simp [e]) (by rw [e]; rfl) h

theorem endStep_of {st : ZeroStep} (hs : p.zero.step = some st) (h : Q p) : P p.endStep := by
  unfold Spout.endStep
  rw [hs]
  exact R.toRest { p with zero := { p.zero with step := none } } _ (R.origin_restful st.origin) rfl
    (R.zeroWork p _ _ _ (.inl rfl) h)

theorem abandonStep (h : P p) : P p.abandonStep :=
  Spout.abandonStep_rule h fun st hs =>
    R.toRest { p with zero := { p.zero with step := none, retryWait := some 400 } } _ (R.origin_restful st.origin) rfl
      (R.zeroWork p _ _ _ (.inr (.inr rfl)) (R.atStep hs h))

theorem becomeHeld (r : HeldReason) (hstep : p.zero.step = none) (h : Q p) : P (p.becomeHeld r) :=
  R.marked (({ p with ctl := { p.ctl with heldReason := some r } } : Spout).enter .held) _ rfl
    (R.toRest _ _ (by simp [SpoutState.restful, SpoutState.gateOpen]) hstep (R.parts p _ _ _ h))

theorem becomeTailing (r : EndReason) (hstep : p.zero.step = none) (h : Q p) : P (p.becomeTailing r) :=
  R.toRest _ _ (by simp [SpoutState.restful, SpoutState.gateOpen]) hstep (R.tail p none (some r) _ _ h)

theorem fault (k : FaultKind) (h : Q p) : P (p.fault k) := by
  have hfaulted : ∀ q : Spout, q.zero.step = none → Q q → P (q.becomeFaulted k) := fun q hstep hq =>
    R.marked (({ q with ctl := { q.ctl with faultKind := some k, heldReason := none, endReason := none } } : Spout).enter
      .faulted) _ rfl (R.toRest _ _ (by simp [SpoutState.restful, SpoutState.gateOpen]) hstep (R.parts q _ _ _ hq))
  have hdrop : Q p.dropZeroWork := R.zeroWork p _ _ _ (.inr (.inl rfl)) h
  unfold Spout.fault
  exact Spout.recordResult_rule (P := fun q => P (q.becomeFaulted k)) _ (fun _ => hfaulted _ rfl hdrop)
    fun c alerts _ => hfaulted _ rfl (R.close _ c _ alerts hdrop)

/-- A recording keeps the step, so that the spout may move on. -/
theorem recordResult_moveOn (path : RecordPath) (hstep : p.zero.step = none) (h : Q p) : P (p.recordResult path).moveOn :=
  Spout.recordResult_rule (P := fun q => P q.moveOn) _ (fun _ => R.moveOn hstep h)
    fun c alerts _ => R.moveOn hstep (R.close p c path alerts h)


/-! ### The changes of a spout's record that go to rest -/

theorem held (r : HeldReason) (hst : p.ctl.state = .armed ∨ p.ctl.state = .awaitAir ∨ p.ctl.state.gateOpen = true)
    (h : P p) : P (p.shutGate.giveUpAir.becomeHeld r) := by
  have hne : p.ctl.state ≠ .zeroing ∧ p.ctl.state ≠ .parked := by
    constructor <;> intro e <;> simp [e, SpoutState.gateOpen] at hst
  exact R.becomeHeld r (by simpa using R.step_none hne.1 h) (R.released p hne.2 h)

theorem tailing (r : EndReason) (hst : p.ctl.state.gateOpen = true ∨ p.ctl.state = .held) (h : P p) :
    P (p.shutGate.giveUpAir.becomeTailing r) := by
  have hne : p.ctl.state ≠ .zeroing ∧ p.ctl.state ≠ .parked := by
    constructor <;> intro e <;> simp [e, SpoutState.gateOpen] at hst
  exact R.becomeTailing r (by simpa using R.step_none hne.1 h) (R.released p hne.2 h)

theorem backToArmed (hst : p.ctl.state = .awaitAir) (h : P p) : P (p.giveUpAir.enter .armed) := by
  have hshut : p.shutGate = p := by simp [Spout.shutGate, hst, SpoutState.gateOpen]
  have hq := R.released p (by simp [hst]) h
  rw [hshut] at hq
  exact R.toRest _ _ (by simp [SpoutState.restful, SpoutState.gateOpen]) (by simpa using R.step_none (by simp [hst]) h) hq

theorem tailing_atRest (hst : p.ctl.state = .tailing) (h : P p) : Q p :=
  R.atRest p (by simp [hst]) (by simp [hst]) (by rw [hst]; rfl) h

theorem endTail (b : Bool) (hst : p.ctl.state = .tailing) (h : P p) : P (p.endTail b) :=
  R.recordResult_moveOn _ (R.step_none (by simp [hst]) h) (R.tailing_atRest hst h)

theorem openCompartment (hst : p.ctl.state = .ready ∨ p.ctl.state = .zeroing) (h : P p) : P p.openCompartment := by
  have hq : Q p := R.atRest p (by rcases hst with e | e <;> simp [e]) (by rcases hst with e | e <;> simp [e])
    (by rcases hst with e | e <;> rw [e] <;> rfl) h
  unfold Spout.openCompartment
  split
  · exact h
  · next o rest e => exact R.opened p o rest e hq

theorem readyWhileZeroing (hst : p.ctl.state = .zeroing) (h : P p) :
    P p.readyWhileZeroing := by
  have hready : P (({ p with zero := { p.zero with step := none } } : Spout).enter .ready) :=
    R.toRest _ _ (by simp [SpoutState.restful, SpoutState.gateOpen]) rfl
      (R.zeroWork p _ _ _ (.inl rfl) (R.atRest p (by simp [hst]) (by simp [hst]) (by rw [hst]; rfl) h))
  unfold Spout.readyWhileZeroing
  split
  · next st hs =>
    split
    · exact R.reorigin p st _ hs h
    · exact R.examineZeroing hready
  · next hs =>
    have hp : ({ p with zero := { p.zero with step := none } } : Spout) = p := by rw [← hs]
    rw [hp] at hready
    exact R.examineZeroing hready

theorem markAborted (h : P p) : P p.markAborted := by
  obtain ⟨queue, hcaps, e⟩ := markAborted_eq_queue p
  rw [e]
  exact R.requeue p queue hcaps h

theorem abortReady (hst : p.ctl.state = .ready) (h : P p) : P p.abortReady := by
  have hstep : p.zero.step = none := R.step_none (by simp [hst]) h
  have hq : Q p := R.atRest p (by simp [hst]) (by simp [hst]) (by rw [hst]; rfl) h
  exact R.settle (p := (p.retireHead 2).clearProceed) hstep
    (R.zeroWork (p.retireHead 2) _ _ _ (.inl rfl) (R.queue p _ _ (retireHead_caps p) hq))

theorem park (hst : p.ctl.state = .idle ∨ p.ctl.state = .zeroing) (h : P p) : P p.park :=
  R.toRest _ _ (by simp [SpoutState.restful, SpoutState.gateOpen]) rfl
    (R.zeroWork p _ _ _ (.inr (.inl rfl)) (R.atRest p (by rcases hst with e | e <;> simp [e])
      (by rcases hst with e | e <;> simp [e]) (by rcases hst with e | e <;> rw [e] <;> rfl) h))

theorem clearFault (hst : p.ctl.state = .faulted) (h : P p) : P p.clearFault := by
  have hstep : p.zero.step = none := R.step_none (by simp [hst]) h
  have hq : Q p := R.atRest p (by simp [hst]) (by simp [hst]) (by rw [hst]; rfl) h
  exact R.moveOn (p := { p with ctl := { p.ctl with faultKind := none, stuckRun := 0 } }) hstep
    (R.unstuck _ (R.parts p p.ctl.heldReason none p.ctl.endReason hq))

theorem endAborted (hst : p.ctl.state = .armed ∨ p.ctl.state = .awaitAir) (h : P p) :
    P p.markAborted.giveUpAir.endAborted := by
  have hst' : p.markAborted.ctl.state = .armed ∨ p.markAborted.ctl.state = .awaitAir := by simpa using hst
  have h' : P p.markAborted := R.markAborted h
  generalize p.markAborted = q at hst' h'
  have hshut : q.shutGate = q := by rcases hst' with e | e <;> simp [Spout.shutGate, e, SpoutState.gateOpen]
  have hq := R.released q (by rcases hst' with e | e <;> simp [e]) h'
  rw [hshut] at hq
  exact R.recordResult_moveOn _ (by simpa using R.step_none (by rcases hst' with e | e <;> simp [e]) h') hq

theorem abortLoading (hst : p.ctl.state.gateOpen = true ∨ p.ctl.state = .held) (h : P p) :
    P (p.markAborted.shutGate.giveUpAir.becomeTailing .abort) :=
  R.tailing .abort (by simpa using hst) (R.markAborted h)

theorem cancelHead {q : Spout} {tag : Nat} (hq : p.cancelHead tag = some q) (h : P p) : P q := by
  have hcaps : ∀ o ∈ p.queue.filter fun o => o.tag != tag, ∃ o' ∈ p.queue, o'.cap = o.cap :=
    fun o ho => ⟨o, List.mem_of_mem_filter ho, rfl⟩
  have hremove : P (p.removeOrder tag) :=
    R.marked { p with queue := p.queue.filter fun o => o.tag != tag } _ rfl (R.requeue p _ hcaps h)
  unfold Spout.cancelHead at hq
  split at hq <;> cases hq
  · next hst =>
    have hstep : p.zero.step = none := R.step_none (by simp [hst]) h
    have hrest : Q p := R.atRest p (by simp [hst]) (by simp [hst]) (by rw [hst]; rfl) h
    exact R.settle (p := (p.removeOrder tag).clearProceed) hstep
      (R.zeroWork (p.removeOrder tag) _ _ _ (.inl rfl) (R.queue p _ _ hcaps hrest))
  · have hclear : P (p.removeOrder tag).clearProceed := R.proceed _ false hremove
    cases hs : p.zero.step with
    | none =>
      refine R.marked (p.removeOrder tag).clearProceed _ ?_ hclear
      simp [Spout.unmarked, Spout.headLeftZeroing, Spout.clearProceed, Spout.removeOrder, hs]
    | some st =>
      refine R.marked _ _ ?_ (R.reorigin (p.removeOrder tag).clearProceed st
        (if (p.removeOrder tag).clearProceed.queue.isEmpty then .idle else .ready) hs hclear)
      simp [Spout.unmarked, Spout.headLeftZeroing, Spout.clearProceed, Spout.removeOrder, hs]
  · exact R.marked (p.removeOrder tag) _ rfl hremove

theorem newHead (h : P p)
    (hparked : p.ctl.state = .parked → Q { p with zero := p.zero.unpark }) : P p.newHead := by
  unfold Spout.newHead
  split
  case h_1 hst =>
    have hstep : p.zero.step = none := R.step_none (by simp [hst]) h
    exact R.examineZeroing (R.toRest _ _ (by simp [SpoutState.restful, SpoutState.gateOpen]) hstep (hparked hst))
  case h_2 hst =>
    have hstep : p.zero.step = none := R.step_none (by simp [hst]) h
    have hrest : Q p := R.atRest p (by simp [hst]) (by simp [hst]) (by rw [hst]; rfl) h
    exact R.examineZeroing (R.toRest _ _ (by simp [SpoutState.restful, SpoutState.gateOpen]) hstep hrest)
  case h_3 hst => exact R.readyWhileZeroing hst h
  case h_4 => exact R.marked p _ rfl h
  all_goals exact h

theorem unpark (hst : p.ctl.state = .parked) (h : P p) (hparked : Q { p with zero := p.zero.unpark }) : P p.unpark := by
  have hstep : p.zero.step = none := R.step_none (by simp [hst]) h
  exact R.examineZeroing (R.toRest _ _ (by simp [SpoutState.restful, SpoutState.gateOpen]) hstep hparked)

theorem leaveHeld (hst : p.ctl.state = .held) (h : P p) : p.leaveHeld.zero.step = none ∧ Q p.leaveHeld := by
  have hstep : p.zero.step = none := R.step_none (by simp [hst]) h
  have hrest : Q p := R.atRest p (by simp [hst]) (by simp [hst]) (by rw [hst]; rfl) h
  exact ⟨hstep, R.enter _ _ (R.parts p none p.ctl.faultKind p.ctl.endReason hrest)⟩

theorem resumeArmed (hst : p.ctl.state = .held) (h : P p) : P (p.leaveHeld.giveUpAir.enter .armed) := by
  obtain ⟨hstep, hrest⟩ := R.leaveHeld hst h
  exact R.toRest _ _ (by simp [SpoutState.restful, SpoutState.gateOpen]) (by simpa using hstep) (R.giveUp _ hrest)

theorem resumeHeld (hst : p.ctl.state = .held) (h : P p) : P (p.leaveHeld.shutGate.giveUpAir.becomeHeld .bay) := by
  have hshut : p.leaveHeld.shutGate = p.leaveHeld := rfl
  obtain ⟨hstep, hrest⟩ := R.leaveHeld hst h
  rw [hshut]
  exact R.becomeHeld _ (by simpa using hstep) (R.giveUp _ hrest)

end Rests

/-- The zero tracker is no part of the properties, but for whether it has a step in progress. -/
structure ReadsNoZero (P Q : Spout → Prop) : Prop where
  rest : ∀ (p : Spout) z, Q p → Q { p with zero := z }
  run : ∀ (p : Spout) z, z.step.isSome = p.zero.step.isSome → P p → P { p with zero := z }

namespace ReadsNoZero

variable {P Q : Spout → Prop} (R : Rests P Q) (Z : ReadsNoZero P Q) {p : Spout}
include R Z

theorem takeSample (raw : Nat) (h : P p) : P (p.takeSample raw) := Z.run p _ (by simp) h

theorem endStep {st : ZeroStep} (z : ZeroTracker) (hs : p.zero.step = some st) (hz : z.step = some st) (h : P p) :
    P ({ p with zero := z } : Spout).endStep :=
  R.endStep_of (p := { p with zero := z }) hz (Z.rest p z (R.atStep hs h))

theorem completeNormal {st : ZeroStep} (hs : p.zero.step = some st) (h : P p) : P (p.completeNormal st) :=
  Spout.completeNormal_rule (fun _ => endStep R Z _ hs hs h) (fun _ => endStep R Z _ hs hs h)
    fun _ alerts => endStep (p := { p with alerts := alerts }) R Z _ hs hs (R.marked p _ rfl h)

theorem completeZeroNow {st : ZeroStep} {sum : Nat} (hs : p.zero.step = some st) (h : P p) : P (p.judge true sum).endStep :=
  Spout.judge_rule (P := fun q => P q.endStep) (fun _ => endStep R Z _ hs hs h)
    fun d => endStep (p := p.raise .zeroRejected d) R Z _ hs hs (R.marked p _ rfl h)

theorem completeMakeup {st : ZeroStep} (hs : p.zero.step = some st) (h : P p) : P (p.completeMakeup st) :=
  endStep R Z _ hs hs h

theorem setCadence (c : Cadence) (h : P p) : P (p.setCadence c) := by
  have hz : ∀ b, P { p with zero := p.zero.changeCadence c b } := fun b =>
    Z.run p _ (by unfold ZeroTracker.changeCadence; split <;> rfl) h
  unfold Spout.setCadence
  split
  · exact h
  · apply R.examineZeroing
    unfold Spout.dropNormalStep
    split
    · next st hs =>
      split
      · exact R.endStep_of hs (R.atStep hs (hz _))
      · exact hz _
    · exact hz _

theorem zeroNow (hst : p.ctl.state = .idle ∨ p.ctl.state = .ready) (h : P p) : P p.zeroNow := by
  have hrest : Q p := R.atRest p (by rcases hst with e | e <;> simp [e]) (by rcases hst with e | e <;> simp [e])
    (by rcases hst with e | e <;> rw [e] <;> rfl) h
  unfold Spout.zeroNow
  split
  · exact R.toStep _ _ (Z.rest p _ hrest)
  · exact R.toStep _ _ (Z.rest p _ hrest)

end ReadsNoZero

/-- What is left to show of the zero tracker (R38 to R50) of a property that rests in `Q`. -/
structure ZeroMoves (P Q : Spout → Prop) : Prop where
  oweStep : ∀ p, P p → P p.oweStep
  tickDue : ∀ p, p.ctl.state ≠ .parked → p.dueReached = false → P p → P p.tickDue
  endRetry : ∀ p, P p → P p.endRetry
  tickRetry : ∀ p, p.retryEnds = false → P p → P p.tickRetry
  takeSample : ∀ p raw st, p.zero.step = some st → raw < 1048576 → st.taken + 1 < st.length → P p → P (p.takeSample raw)
  completeNormal : ∀ p st raw, p.zero.step = some st → st.kind = .normal → raw < 1048576 → st.length ≤ st.taken + 1 →
    P p → P ((p.takeSample raw).completeNormal (st.take raw))
  completeZeroNow : ∀ p st raw, p.zero.step = some st → st.kind = .zeroNow → raw < 1048576 → st.length ≤ st.taken + 1 →
    P p → P (((p.takeSample raw).judge true (st.take raw).sum).endStep)
  completeMakeup : ∀ p st raw, p.zero.step = some st → st.kind = .makeup → raw < 1048576 → st.length ≤ st.taken + 1 →
    P p → P ((p.takeSample raw).completeMakeup (st.take raw))
  zeroNow : ∀ p, p.ctl.state = .idle ∨ p.ctl.state = .ready → P p → P p.zeroNow
  unpark : ∀ p, Q p → Q { p with zero := p.zero.unpark }

theorem step_takeSample {p : Spout} {st : ZeroStep} (raw : Nat) (hs : p.zero.step = some st) :
    (p.takeSample raw).zero.step = some (st.take raw) := by
  simp [Spout.takeSample, hs]

/-- A property that reads no zero tracker keeps all of that. -/
theorem ReadsNoZero.zeroMoves {P Q : Spout → Prop} (R : Rests P Q) (Z : ReadsNoZero P Q) : ZeroMoves P Q where
  oweStep p h := Z.run p _ rfl h
  tickDue p _ _ h := Z.run p _ rfl h
  endRetry p h := Z.run p _ rfl h
  tickRetry p _ h := Z.run p _ rfl h
  takeSample _ raw _ _ _ _ h := Z.takeSample R raw h
  completeNormal _ _ raw hs _ _ _ h := Z.completeNormal R (step_takeSample raw hs) (Z.takeSample R raw h)
  completeZeroNow _ _ raw hs _ _ _ h := Z.completeZeroNow R (step_takeSample raw hs) (Z.takeSample R raw h)
  completeMakeup _ _ raw hs _ _ _ h := Z.completeMakeup R (step_takeSample raw hs) (Z.takeSample R raw h)
  zeroNow _ hst h := Z.zeroNow R hst h
  unpark p h := Z.rest p _ h

/-! ### From rest to every change of a spout's record -/

/-- What is left to show of a property that rests in `Q`: the changes of a spout that waits for air or
loads, and those of its channel, curve, counts, parameters and queue. -/
structure Loads (s : State) (P Q : SpoutId → Spout → Prop) : Prop where
  rests : ∀ i, Rests (P i) (Q i)
  zeroMoves : ∀ i, ZeroMoves (P i) (Q i)
  takeGrant : ∀ i p, p.place = .waiter → P i p → P i p.takeGrant
  openGate : ∀ i p, p.ctl.state = .awaitAir → p.place = .holder → P i p → P i p.openGate
  enterAwait : ∀ i p, p.ctl.state = .armed → P i p → P i (p.enter .awaitAir).becomeWaiter
  resumeWaits : ∀ i, (s.spout i).ctl.state = .held → P i (s.spout i) → P i (s.spout i).leaveHeld.becomeWaiter
  acceptForce : ∀ i p seq, P i p → P i (p.acceptForce seq)
  countMissed : ∀ i p, P i p → P i p.countMissed
  starveChannel : ∀ i p, P i p → P i p.starveChannel
  workGood : ∀ i p raw hs, raw < 1048576 → P i p → P i (p.workGood raw hs)
  workFill : ∀ i p, P i p → P i p.workFill
  countDuration : ∀ i p, P i p → P i p.countDuration
  enterFineBand : ∀ i p, p.ctl.state = .coarse → P i p → P i p.enterFineBand
  floodDrop : ∀ i p, p.ctl.state = .coarse → P i p → P i p.floodDrop
  tickFlood : ∀ i p, p.ctl.state.gateOpen = true → p.floodDropReached = false → p.floodClosureReached = false → P i p →
    P i p.tickFlood
  countPacing : ∀ i p, P i p → P i p.countPacing
  pace : ∀ i p, P i p → P i p.pace
  tickAirLost : ∀ i p low, p.ctl.state.gateOpen = true → (low = true → p.ctl.airLostRun + 1 < 200) → P i p →
    P i (p.tickAirLost low)
  tickPressure : ∀ i p, p.ctl.state = .awaitAir → p.airFailReached = false → P i p → P i p.tickPressure
  tickStuck : ∀ i p isOpen, (isOpen = true → p.ctl.state.stuckExempt = false ∧ p.ctl.stuckRun + 1 < 1200) → P i p →
    P i (p.tickStuck isOpen)
  tickTail : ∀ i (p : Spout), p.ctl.state = .tailing → p.settleReached = false → p.timeoutReached = false → P i p →
    P i { p with ctl := { p.ctl with
      tailAge := p.ctl.tailAge + 1, settleRun := if p.quiet then p.ctl.settleRun + 1 else 0 } }
  countReport : ∀ i p, P i p → P i p.countReport
  reportExpires : ∀ i p, P i p → P i p.reportExpires
  setParam : ∀ i q v, (q.fixedInCompartment = true → (s.spout i).ctl.state.compartmentOpen = false) →
    P i (s.spout i) → P i ((s.spout i).setParam q (q.limit v))
  written : ∀ i b v, (s.spout i).curve.bankLocked b = false →
    ((∀ k, ((s.spout i).curve.points b).getD k 0 ≤ 20000) → ∀ k, v.getD k 0 ≤ 20000) → P i (s.spout i) →
    P i { s.spout i with curve := (s.spout i).curve.written b v }
  failSwitch : ∀ i, (s.spout i).curve.exchangePending = false → P i (s.spout i) → P i (s.spout i).failSwitch
  deferSwitch : ∀ i, failingPoint ((s.spout i).curve.points (s.spout i).curve.standby) = none →
    (s.spout i).ctl.state.compartmentOpen = true → P i (s.spout i) → P i (s.spout i).deferSwitch
  switchNow : ∀ i, failingPoint ((s.spout i).curve.points (s.spout i).curve.standby) = none →
    (s.spout i).ctl.state.compartmentOpen = false → P i (s.spout i) → P i (s.spout i).switchNow
  mapForce : ∀ i, (s.spout i).ctl.state = .parked → P i (s.spout i) → P i (s.spout i).mapForce
  woken : ∀ i (p : Spout), p.ctl.state = .parked → p.curve = (s.spout i).curve → s.configured i = true → P i p → Q i p
  append : ∀ i (p : Spout) ps, P i p → P i { p with queue := p.queue ++ [enqueueOrder ps] }
  restart : ∀ i p, P i p → P i p.restart
  reset : ∀ i, P i Spout.reset

/-- R56: to enter the state that it stands in does no more than set the report-due flag. -/
theorem unmarked_enter {p : Spout} {st : SpoutState} (h : p.ctl.state = st) (he : st.stuckExempt = false) :
    (p.enter st).unmarked = p.unmarked := by
  subst h
  simp [Spout.enter, Spout.unmarked, he]

theorem Loads.keeps {s : State} {P Q : SpoutId → Spout → Prop} (L : Loads s P Q) : Keeps s P where
  marked i := (L.rests i).marked
  takeGrant := L.takeGrant
  openGate := L.openGate
  held i _ r hst h := (L.rests i).held r hst h
  tailing i _ r hst h := (L.rests i).tailing r hst h
  fault i p k hp _ h := (L.rests i).fault k ((L.rests i).released p hp h)
  backToArmed i _ hst h := (L.rests i).backToArmed hst h
  enterAwait := L.enterAwait
  acceptForce := L.acceptForce
  countMissed := L.countMissed
  starveChannel := L.starveChannel
  workGood := L.workGood
  workFill := L.workFill
  countDuration := L.countDuration
  enterFineBand := L.enterFineBand
  floodDrop := L.floodDrop
  tickFlood := L.tickFlood
  countPacing := L.countPacing
  pace := L.pace
  tickAirLost := L.tickAirLost
  tickPressure := L.tickPressure
  tickStuck := L.tickStuck
  countTail i p hst h := by
    unfold Spout.countTail
    split
    · exact (L.rests i).endTail _ hst h
    · next hsettle =>
      split
      · exact (L.rests i).endTail _ hst h
      · next htimeout => exact L.tickTail i p hst (by simpa using hsettle) (by simpa using htimeout) h
  endTail i _ b hst h := (L.rests i).endTail b hst h
  countReport := L.countReport
  reportExpires := L.reportExpires
  oweStep i := (L.zeroMoves i).oweStep
  tickDue i := (L.zeroMoves i).tickDue
  endRetry i := (L.zeroMoves i).endRetry
  tickRetry i := (L.zeroMoves i).tickRetry
  examineZeroing i _ h := (L.rests i).examineZeroing h
  abandonStep i _ h := (L.rests i).abandonStep h
  takeSample i := (L.zeroMoves i).takeSample
  completeNormal i := (L.zeroMoves i).completeNormal
  completeZeroNow i := (L.zeroMoves i).completeZeroNow
  completeMakeup i := (L.zeroMoves i).completeMakeup
  openReady i _ hst h := (L.rests i).openCompartment (.inl hst) h
  openZeroing i _ _ hst _ _ h := (L.rests i).openCompartment (.inr hst) h
  setParam := L.setParam
  written := L.written
  failSwitch := L.failSwitch
  deferSwitch := L.deferSwitch
  switchNow := L.switchNow
  mapForce := L.mapForce
  join i ps hconf _ _ _ _ _ _ h := by
    have happ := L.append i _ ps h
    unfold Spout.join
    dsimp only
    split
    · exact (L.rests i).newHead happ fun hst => (L.zeroMoves i).unpark _ (L.woken i _ hst rfl (hconf hst) happ)
    · exact happ
  removeOrder i tag _ h :=
    (L.rests i).marked { s.spout i with queue := (s.spout i).queue.filter fun o => o.tag != tag } _ rfl
      ((L.rests i).requeue _ _ (fun o ho => ⟨o, List.mem_of_mem_filter ho, rfl⟩) h)
  cancelHead i _ _ _ hq h := (L.rests i).cancelHead hq h
  markProceed i _ h := (L.rests i).proceed _ true h
  endAborted i hst h := (L.rests i).endAborted hst h
  abortLoading i hst h := (L.rests i).abortLoading hst h
  abortTail i hst h := by
    have hst' : (s.spout i).markAborted.ctl.state = .tailing := by simp [hst]
    have hmarked := (L.rests i).markAborted h
    have hq := (L.rests i).parts _ (s.spout i).markAborted.ctl.heldReason (s.spout i).markAborted.ctl.faultKind
      (some .abort) ((L.rests i).tailing_atRest hst' hmarked)
    have hstep : (s.spout i).markAborted.zero.step = none := (L.rests i).step_none (by rw [hst']; simp) hmarked
    refine (L.rests i).marked _ _ ?_
      ((L.rests i).toRest _ .tailing (by simp [SpoutState.restful, SpoutState.gateOpen]) (by exact hstep) hq)
    exact unmarked_enter hst' rfl
  abortReady i hst h := (L.rests i).abortReady hst h
  resumeWaits := L.resumeWaits
  resumeArmed i hst h := (L.rests i).resumeArmed hst h
  resumeHeld i hst h := (L.rests i).resumeHeld hst h
  park i hst h := (L.rests i).park (hst.imp_right And.left) h
  unpark i hst hconf h := (L.rests i).unpark hst h ((L.zeroMoves i).unpark _ (L.woken i _ hst rfl hconf h))
  clearFault i hst h := (L.rests i).clearFault hst h
  zeroNow i hst h := (L.zeroMoves i).zeroNow _ hst h
  restart := L.restart
  reset := L.reset

end Sys2Proof.Machine
end

section
/-! PROOFS. Grants, waiter places and pressure waits follow the spout states (R134 to R142), the arbiter leaves no place free
while a spout waits (R138), and the settled statement about both. -/

set_option Elab.async false

namespace Sys2Proof.Machine

/-! ### One spout's grant -/

namespace Spout

variable {p q : Spout}

/-- R134: the spout is neither holder nor waiter, and no pressure wait runs. -/
def airless (p : Spout) : Prop := p.place = .neither ∧ p.ctl.pressureWait = none

theorem airSound_of_airless (h : p.airless) (hs : p.stepSound) (ha : p.ctl.state ≠ .awaitAir)
    (hg : p.ctl.state.gateOpen = false) : p.airSound := by
  simp [airSound, hs, ha, hg, h.1, h.2]

theorem airless_of_airSound (h : p.airSound) (ha : p.ctl.state ≠ .awaitAir) (hg : p.ctl.state.gateOpen = false) :
    p.airless := by
  obtain ⟨-, -, hplace, hwait⟩ := h
  simp only [ha, hg, Bool.false_eq_true, or_self, iff_false, false_and, ne_eq, not_not] at hplace hwait
  exact ⟨hplace, by simpa using hwait⟩

theorem airless_giveUpAir (h : p.airSound) : p.giveUpAir.airless := by
  refine ⟨giveUpAir_place p, ?_⟩
  obtain ⟨-, -, -, hwait⟩ := h
  unfold giveUpAir
  split
  · next e => simpa [e] using hwait
  · next e => simpa [e] using hwait
  · rfl

theorem airSound_shutGate (h : p.airSound) : p.shutGate.airSound := shutGate_rule (fun _ => h) fun _ => h

/-- The states of rest, in which no step runs either. -/
theorem stepSound_enter {st : SpoutState} (hst : st ≠ .zeroing) (hstep : p.zero.step = none) : (p.enter st).stepSound := by
  simp [stepSound, hst, hstep]

theorem stepSound_startStep (k : StepKind) : (p.startStep k).stepSound := by
  simp [stepSound, startStep]

end Spout

theorem airSound_rests : Rests Spout.airSound Spout.airless where
  stepSound _ h := h.1
  marked _ _ e h := marked_of_unmarked (fun _ => rfl) e h
  toRest p st hst hstep h := by
    obtain ⟨hz, ha, hg⟩ := hst
    exact Spout.airSound_of_airless h (Spout.stepSound_enter hz hstep) ha hg
  toStep p k h := Spout.airSound_of_airless h (Spout.stepSound_startStep k) (by simp [Spout.startStep]) rfl
  atRest _ _ ha hg h := Spout.airless_of_airSound h ha hg
  released _ _ h := Spout.airless_giveUpAir (Spout.airSound_shutGate h)
  giveUp p h := by unfold Spout.giveUpAir; split <;> simp_all [Spout.airless]
  enter _ _ h := h
  zeroWork _ _ _ _ _ h := h
  parts _ _ _ _ h := h
  tail _ _ _ _ _ h := h
  unstuck _ h := h
  close _ _ _ _ h := h
  queue _ _ _ _ h := h
  requeue _ _ _ h := h
  reorigin p st origin hs h := by simpa [Spout.airSound, Spout.stepSound, hs] using h
  proceed _ _ h := h
  opened p o rest _ h := Spout.airSound_of_airless h (Spout.stepSound_enter (by simp) rfl) (by simp [Spout.openWith]) rfl

theorem airSound_readsNoZero : ReadsNoZero Spout.airSound Spout.airless where
  rest _ _ h := h
  run p z hz h := by simpa [Spout.airSound, Spout.stepSound, hz] using h

namespace Spout

variable {p : Spout}

theorem airSound_takeGrant (hw : p.place = .waiter) (h : p.airSound) : p.takeGrant.airSound := by
  obtain ⟨hstep, hgate, hplace, -⟩ := h
  have hopen : ¬ p.ctl.state.gateOpen = true := fun e => by simp [hgate e] at hw
  have hawait : p.ctl.state = .awaitAir := by simpa [hw, hopen] using hplace
  refine ⟨hstep, fun _ => rfl, ?_, ?_⟩ <;> simp [takeGrant, hawait]

theorem airSound_openGate (hst : p.ctl.state = .awaitAir) (hh : p.place = .holder) (h : p.airSound) : p.openGate.airSound := by
  have hstep : p.zero.step = none := stepSound_none h.1 (by simp [hst])
  have hne : (p.ctl.resumePhase.getD .coarse).state ≠ .awaitAir ∧ (p.ctl.resumePhase.getD .coarse).state ≠ .zeroing := by
    cases p.ctl.resumePhase.getD .coarse <;> simp [Phase.state]
  have hwait : p.openGate.ctl.pressureWait = none := rfl
  simp [airSound, stepSound, hstep, hne, hh, hwait]

theorem airSound_becomeWaiter (hst : p.ctl.state = .awaitAir) (hstep : p.zero.step = none) (hwait : p.ctl.pressureWait = none) :
    p.becomeWaiter.airSound := by
  simp [airSound, stepSound, becomeWaiter, hst, hstep, hwait, SpoutState.gateOpen]

theorem airSound_fine (hst : p.ctl.state = .coarse) (h : p.airSound) : (p.enter .fine).airSound := by
  obtain ⟨hstep, hgate, -, hwait⟩ := h
  have hnone : p.zero.step = none := stepSound_none hstep (by simp [hst])
  have hh := hgate (by simp [hst, SpoutState.gateOpen])
  have hw : p.ctl.pressureWait = none := by simpa [hst] using hwait
  have hw' : (p.enter .fine).ctl.pressureWait = none := hw
  simp [airSound, stepSound, hnone, hh, hw', SpoutState.gateOpen]

theorem airSound_setParam (q : SpoutParam) (v : Nat) (h : p.airSound) : (p.setParam q v).airSound := by
  cases q <;> try exact h
  case minOpening =>
    simp only [setParam, setMinOpening]
    split <;> exact h
  case zeroMode => exact ReadsNoZero.setCadence airSound_rests airSound_readsNoZero _ h

theorem airSound_workGood (raw : Nat) (hs : HeadStatus) (h : p.airSound) : (p.workGood raw hs).airSound := by
  unfold workGood watchRange
  dsimp only
  repeat' split
  all_goals exact h

end Spout

theorem loads_airSound (s : State) : Loads s (fun _ p => p.airSound) fun _ p => p.airless where
  rests _ := airSound_rests
  zeroMoves _ := airSound_readsNoZero.zeroMoves airSound_rests
  takeGrant _ _ hw h := Spout.airSound_takeGrant hw h
  openGate _ _ hst hh h := Spout.airSound_openGate hst hh h
  enterAwait _ p hst h :=
    have hstep : p.zero.step = none := airSound_rests.step_none (by simp [hst]) h
    Spout.airSound_becomeWaiter (p := p.enter .awaitAir) rfl hstep
      (Spout.airless_of_airSound h (by simp [hst]) (by rw [hst]; rfl)).2
  resumeWaits _ hst h :=
    have hl := airSound_rests.leaveHeld hst h
    Spout.airSound_becomeWaiter rfl hl.1 hl.2.2
  acceptForce _ _ _ h := h
  countMissed _ _ h := h
  starveChannel _ _ h := h
  workGood _ _ raw hs _ h := Spout.airSound_workGood raw hs h
  workFill _ _ h := h
  countDuration _ p h := by unfold Spout.countDuration; split <;> exact h
  enterFineBand _ _ hst h := Spout.airSound_fine hst h
  floodDrop _ _ hst h := by
    have h' := Spout.airSound_fine hst h
    exact h'
  tickFlood _ _ _ _ _ h := h
  countPacing _ p h := by
    unfold Spout.countPacing
    split
    · exact Spout.pace_rule (fun _ => h) fun _ _ _ => h
    · exact h
  pace _ _ h := Spout.pace_rule (fun _ => h) fun _ _ _ => h
  tickAirLost _ _ _ _ _ h := h
  tickPressure _ p _ _ h := by simpa [Spout.airSound, Spout.tickPressure, Spout.stepSound] using h
  tickStuck _ _ _ _ h := h
  tickTail _ _ _ _ _ h := h
  countReport _ p h := by unfold Spout.countReport; split <;> exact h
  reportExpires _ _ h := h
  setParam _ q _ _ h := Spout.airSound_setParam q _ h
  written _ _ _ _ _ h := h
  failSwitch _ _ h := h
  deferSwitch _ _ _ h := h
  switchNow _ _ _ h := h
  mapForce _ _ h := h
  woken _ _ hst _ _ h := Spout.airless_of_airSound h (by simp [hst]) (by rw [hst]; rfl)
  append _ _ _ h := h
  restart _ p _ := by
    simp [Spout.airSound, Spout.stepSound, Spout.restart, Spout.reset, ZeroTracker.restart, ZeroTracker.reset,
      Control.restart, Control.reset, SpoutState.gateOpen]
  reset _ := by
    simp [Spout.airSound, Spout.stepSound, Spout.reset, ZeroTracker.reset, Control.reset, SpoutState.gateOpen]

end Sys2Proof.Machine
end

section
/-! PROOFS. One induction for every property of the whole device (`step_carries`): a property that each change of the device's
own fields carries over, and that the changes of single spouts leave alone, holds after every step. -/

set_option Elab.async false

namespace Sys2Proof.Machine

/-! ### Changes of a spout that neither move a grant nor add an order -/

namespace Spout

variable {p q : Spout}

/-- The spout keeps its place with the blower arbiter and gains no order. -/
def steady (p q : Spout) : Prop := q.place = p.place ∧ q.queue.length ≤ p.queue.length

theorem steady_refl (p : Spout) : p.steady p := ⟨rfl, le_rfl⟩

theorem steady_examineZeroing : p.steady p.examineZeroing := examineZeroing_rule (steady_refl p) fun _ _ _ => ⟨rfl, le_rfl⟩

theorem steady_trans {r : Spout} (h : p.steady q) (h' : q.steady r) : p.steady r :=
  ⟨h'.1.trans h.1, h'.2.trans h.2⟩

theorem steady_settle : p.steady p.settle := steady_trans ⟨rfl, le_rfl⟩ steady_examineZeroing

theorem steady_moveOn : p.steady p.moveOn :=
  moveOn_rule steady_settle fun d => steady_trans (q := p.retireHead d) ⟨rfl, by simp [retireHead]⟩ steady_settle

theorem steady_recordResult (path : RecordPath) : p.steady (p.recordResult path) :=
  recordResult_rule _ (fun _ => steady_refl p) fun _ _ _ => ⟨rfl, le_rfl⟩

theorem steady_endStep : p.steady p.endStep := by unfold endStep; split <;> exact ⟨rfl, le_rfl⟩
theorem steady_abandonStep : p.steady p.abandonStep := abandonStep_rule (steady_refl p) fun _ _ => ⟨rfl, le_rfl⟩
theorem steady_shutGate : p.steady p.shutGate := shutGate_rule (fun _ => ⟨rfl, le_rfl⟩) fun _ => steady_refl p

theorem steady_fault (kind : FaultKind) : p.steady (p.fault kind) :=
  steady_trans (q := p.dropZeroWork.recordResult .faulted) (steady_recordResult (p := p.dropZeroWork) _) ⟨rfl, le_rfl⟩

theorem steady_completeNormal (st : ZeroStep) : p.steady (p.completeNormal st) :=
  completeNormal_rule (fun _ => steady_endStep (p := { p with zero := _ })) (fun _ => steady_endStep (p := { p with zero := _ }))
    fun _ alerts => steady_endStep (p := { p with zero := _, alerts := alerts })

theorem steady_judge (now : Bool) (sum : Nat) : p.steady (p.judge now sum) :=
  judge_rule (fun _ => ⟨rfl, le_rfl⟩) fun _ => ⟨rfl, le_rfl⟩

theorem steady_completeMakeup (st : ZeroStep) : p.steady (p.completeMakeup st) := steady_endStep (p := { p with zero := _ })

theorem steady_openCompartment : p.steady p.openCompartment := by
  unfold openCompartment
  split
  · exact steady_refl p
  · next o rest e => exact ⟨rfl, by simp [openWith, e]⟩

theorem steady_pace : p.steady p.pace := pace_rule (fun _ => ⟨rfl, le_rfl⟩) fun _ _ _ => ⟨rfl, le_rfl⟩

theorem steady_countPacing : p.steady p.countPacing := by
  unfold countPacing
  split
  · exact steady_pace
  · exact ⟨rfl, le_rfl⟩

theorem steady_endTail (timedOut : Bool) : p.steady (p.endTail timedOut) :=
  steady_trans (steady_recordResult _) steady_moveOn

theorem steady_countTail : p.steady p.countTail := by
  unfold countTail
  split
  · exact steady_endTail _
  · split
    · exact steady_endTail _
    · exact ⟨rfl, le_rfl⟩

theorem steady_workGood (raw : Nat) (hs : HeadStatus) : p.steady (p.workGood raw hs) := by
  unfold workGood watchRange
  dsimp only
  repeat' split
  all_goals exact ⟨rfl, le_rfl⟩

theorem steady_setCadence (c : Cadence) : p.steady (p.setCadence c) := by
  unfold setCadence
  split
  · exact steady_refl p
  · refine steady_trans (q := ({ p with zero := _ } : Spout).dropNormalStep) ?_ steady_examineZeroing
    unfold dropNormalStep
    split
    · split
      · exact steady_endStep (p := { p with zero := _ })
      · exact ⟨rfl, le_rfl⟩
    · exact ⟨rfl, le_rfl⟩

theorem steady_setParam (q : SpoutParam) (v : Nat) : p.steady (p.setParam q v) := by
  cases q <;> try exact ⟨rfl, le_rfl⟩
  case minOpening =>
    simp only [setParam, setMinOpening]
    split <;> exact ⟨rfl, le_rfl⟩
  case zeroMode => exact steady_setCadence _

theorem steady_markAborted : p.steady p.markAborted := by
  unfold markAborted
  split
  · exact steady_refl p
  · next e => exact ⟨rfl, by simp [e]⟩

theorem steady_cancelHead {tag : Nat} (h : p.cancelHead tag = some q) : p.steady q := by
  have hle : (p.queue.filter fun o => o.tag != tag).length ≤ p.queue.length := List.length_filter_le ..
  unfold cancelHead at h
  split at h <;> cases h
  · exact steady_trans (q := (p.removeOrder tag).clearProceed) ⟨rfl, hle⟩ steady_settle
  · exact ⟨rfl, hle⟩
  · exact ⟨rfl, hle⟩

theorem steady_zeroNow : p.steady p.zeroNow := by unfold zeroNow; split <;> exact ⟨rfl, le_rfl⟩

theorem steady_readyWhileZeroing : p.steady p.readyWhileZeroing := by
  unfold readyWhileZeroing
  split
  · split
    · exact ⟨rfl, le_rfl⟩
    · exact steady_examineZeroing (p := ({ p with zero := _ } : Spout).enter .ready)
  · exact steady_examineZeroing (p := p.enter .ready)

theorem steady_newHead : p.steady p.newHead := by
  unfold newHead
  split
  case h_1 => exact steady_examineZeroing (p := ({ p with zero := p.zero.unpark } : Spout).enter .ready)
  case h_2 => exact steady_examineZeroing (p := p.enter .ready)
  case h_3 => exact steady_readyWhileZeroing
  all_goals exact ⟨rfl, le_rfl⟩

theorem join_place (o : Order) : (p.join o).place = p.place ∧ (p.join o).queue.length ≤ p.queue.length + 1 := by
  have hq : ({ p with queue := p.queue ++ [o] } : Spout).queue.length = p.queue.length + 1 := by simp
  unfold join
  dsimp only
  split
  · exact ⟨steady_newHead.1, hq ▸ steady_newHead.2⟩
  · exact ⟨rfl, hq.le⟩

end Spout

/-! ### Lanes -/

theorem feeds_iff {i : SpoutId} {r : Role} {e : Option Lane} :
    feeds i r e = true ↔ ∃ x, e = some x ∧ x.spout = i ∧ x.role = r := by
  cases e <;> simp [feeds]

theorem laneOf_some {s : State} {i : SpoutId} {r : Role} {l : LaneId} (h : s.laneOf i r = some l) :
    ∃ e, s.lane l = some e ∧ e.spout = i ∧ e.role = r :=
  feeds_iff.mp (by simpa using List.find?_some h)

theorem laneOf_none_iff {s : State} {i : SpoutId} {r : Role} :
    s.laneOf i r = none ↔ ∀ l e, s.lane l = some e → e.spout = i → e.role ≠ r := by
  have hnone : s.laneOf i r = none ↔ ∀ l, ¬ feeds i r (s.lane l) = true := by
    simp [State.laneOf, List.find?_eq_none]
  rw [hnone]
  constructor
  · intro h l e he hi hr
    exact h l (feeds_iff.mpr ⟨e, he, hi, hr⟩)
  · intro h l hl
    obtain ⟨e, he, hi, hr⟩ := feeds_iff.mp hl
    exact h l e he hi hr

theorem Counter.sound_zero : Counter.zero.sound := by simp [Counter.sound, Counter.zero]

theorem Counter.sound_bump {c : Counter} (h : c.sound) : c.bump.sound := by
  obtain ⟨hle, hover⟩ := h
  unfold bump
  split
  · exact ⟨by dsimp only; omega, fun e => by have := hover e; omega⟩
  · exact ⟨by simp, fun _ => rfl⟩

theorem Counter.sound_bumpBy (n : Nat) {c : Counter} (h : c.sound) : (Counter.bumpBy n c).sound := by
  induction n generalizing c with
  | zero => exact h
  | succ n ih => exact ih (Counter.sound_bump h)

/-- A change of a lane's entry that keeps its mapping and its soundness. -/
def Lane.steady (e f : Lane) : Prop := f.spout = e.spout ∧ f.role = e.role ∧ (e.sound → f.sound)

namespace Lane

variable {e : Lane}

theorem steady_countDup : e.steady e.countDup :=
  ⟨rfl, rfl, fun ⟨hcrc, hgap, hdup, hrest⟩ => ⟨hcrc, hgap, Counter.sound_bump hdup, hrest⟩⟩

theorem steady_gap (n : Nat) : e.steady { e with gap := Counter.bumpBy n e.gap } :=
  ⟨rfl, rfl, fun ⟨hcrc, hgap, hrest⟩ => ⟨hcrc, Counter.sound_bumpBy n hgap, hrest⟩⟩

theorem steady_crc : e.steady { e with crc := e.crc.bump } :=
  ⟨rfl, rfl, fun ⟨hcrc, hrest⟩ => ⟨Counter.sound_bump hcrc, hrest⟩⟩

theorem limit_pos (r : Role) : 0 < r.limit := by cases r <;> simp [Role.limit]

theorem steady_refresh : e.steady e.refresh := by
  refine ⟨rfl, rfl, fun ⟨hcrc, hgap, hdup, _, _, hlatest⟩ => ⟨hcrc, hgap, hdup, Nat.zero_le _, ?_, hlatest⟩⟩
  have := limit_pos e.role
  simp only [refresh, Bool.false_eq_true, false_iff]
  omega

theorem steady_accept (seq : Byte) (d : Nat) (hs : HeadStatus) (hr : e.role ≠ .force) : e.steady (e.accept seq d hs) := by
  refine ⟨rfl, rfl, fun ⟨hcrc, hgap, hdup, hage, hstale, _, hlatest⟩ =>
    ⟨hcrc, ?_, hdup, hage, hstale, fun hf => absurd hf hr, hlatest⟩⟩
  unfold accept
  dsimp only
  split
  · exact Counter.sound_bump (Counter.sound_bumpBy _ hgap)
  · exact Counter.sound_bumpBy _ hgap

theorem latestValue_le (r : Role) (v : Nat) :
    (r = .gate → latestValue r v ≤ 1000) ∧ (r = .air → latestValue r v ≤ 65535) ∧
      (r = .probe ∨ r = .bay → latestValue r v ≤ 1) := by
  cases r <;> simp [latestValue] <;> split <;> omega

theorem steady_store (v : Nat) : e.steady (e.store v) := by
  refine ⟨rfl, rfl, fun h => ?_⟩
  obtain ⟨hcrc, hgap, hdup, hage, hstale, hforce, -⟩ := steady_refresh.2.2 h
  exact ⟨hcrc, hgap, hdup, hage, hstale, fun hf => ⟨(hforce hf).1, by simp only [store]; rw [show e.role = .force from hf]; rfl⟩,
    latestValue_le e.role v⟩

theorem steady_goStale (hr : e.role ≠ .force) : e.steady e.goStale := by
  have hlimit : e.role.limit = 200 := by revert hr; cases e.role <;> simp [Role.limit]
  exact ⟨rfl, rfl, fun ⟨hcrc, hgap, hdup, _, _, _, hlatest⟩ =>
    ⟨hcrc, hgap, hdup, hlimit.ge, ⟨fun _ => hlimit.symm, fun _ => rfl⟩, fun hf => absurd hf hr, hlatest⟩⟩

theorem steady_starved (hr : e.role = .force) : e.steady { e with age := 50, stale := true } := by
  have hlimit : e.role.limit = 50 := by rw [hr]; rfl
  exact ⟨rfl, rfl, fun ⟨hcrc, hgap, hdup, _, _, hlatest⟩ =>
    ⟨hcrc, hgap, hdup, hlimit.ge, ⟨fun _ => hlimit.symm, fun _ => rfl⟩, hlatest⟩⟩

theorem steady_clearCounters : e.steady e.clearCounters :=
  ⟨rfl, rfl, fun ⟨_, _, _, hrest⟩ => ⟨Counter.sound_zero, Counter.sound_zero, Counter.sound_zero, hrest⟩⟩

end Lane

/-! ### The law -/

/-- What the moves of a spout may do to the device: change a record, release air, ask for air, or read a free value. -/
structure SpoutMoves (G : State → Prop) : Prop where
  upd : ∀ u i f, (u.spout i).steady (f (u.spout i)) → G u → G (u.upd i f)
  release : ∀ u i, G u → G (releaseAir i u)
  ask : ∀ u i, G u → G (askForAir i u)
  free : ∀ u n, G u → G { u with freeCount := n }

/-- What the requests but UNMAP_LANE may do to the device. -/
structure Acts (A : State → Prop) : Prop extends SpoutMoves A where
  silenceK : ∀ u v, v ≤ 7 → A u → A { u with silenceK := v }
  grantLower : ∀ u v, 1 ≤ v → v ≤ u.grantCount → A u → A { u with grantCount := v }
  grantRaise : ∀ u v, v ≤ 4 → u.grantCount < v → A u → A (grantDecision { u with grantCount := v })
  address : ∀ u a, a ≤ 14 → A u → A { u with address := a }
  clearCounters : ∀ u ls, A u → A (clearCounters ls u)
  window : ∀ u (w : CurveWindow), w.first ≤ w.last → w.last ≤ 16 → w.cursor = w.first → A u → A { u with window := w }
  cursor : ∀ u from_ c, from_ = u.window.first ∨ from_ = u.window.cursor → c = from_ ∨ (from_ ≤ c ∧ c ≤ u.window.last + 1) →
    A u → A { u with window := { u.window with cursor := c } }
  closeWindow : ∀ u, A u → A { u with window := { u.window with isOpen := false } }
  mapLane : ∀ u l i r fwd, u.lane l = none → u.laneOf i r = none → A u → A (u.setLane l (some (Lane.mapped i r fwd)))
  chain : ∀ u c, isChain c = true → A u → A { u with chain := c }
  join : ∀ u i o, u.heldOrders < 16 → A u → A (u.upd i (Spout.join o))

/-- What the field and the passing of time may do to the device. -/
structure Events (G : State → Prop) : Prop extends SpoutMoves G where
  lane : ∀ u l k, (∀ e, u.lane l = some e → e.steady (k e)) → G u → G (u.updLane l k)
  framing : ∀ u, G u → G (countFraming u)
  toPlant : ∀ u run, G u → G (passToPlant run u)
  silent : ∀ u, G u → G { u with timer := none, silent := true }
  silenceMark : ∀ u m, G u → G { u with silenceMark := m }

/-- What else may change the device, but UNMAP_LANE and a power-on reset. `A` is what the property comes to while an accepted
request acts. -/
structure Courses (A G : State → Prop) : Prop extends Events G where
  acts : Acts A
  taken : ∀ u, u.restartPending = false → u.respFifo.length < 4 → G u → A u
  replied : ∀ u r, r.isRestart = false → A u → G { noteAccepted u with respFifo := (noteAccepted u).respFifo ++ [r] }
  restarting : ∀ u r, r.isRestart = true → u.restartPending = false → u.respFifo.length < 4 → G u →
    G { noteAccepted { u with restartPending := true } with
        respFifo := (noteAccepted { u with restartPending := true }).respFifo ++ [r] }
  crc : ∀ u, G u → G (countCrc u)
  requestOverrun : ∀ u, G u → G (requestOverrun u)
  toField : ∀ u run, G u → G (passToField run u)
  servePlant : ∀ u, G u → G (servePlant u)
  sendField : ∀ u rest o, (∃ x, u.fieldFifo = x ++ rest) → G u → G { u with fieldFifo := rest, fieldLine := some o }
  freeField : ∀ u, G u → G { u with fieldLine := none }
  endPlant : ∀ u, G u → G (endPlantFrame u)

/-- What every change of the device carries over. -/
structure Carries (A G : State → Prop) : Prop extends Courses A G where
  unmapLane : ∀ u l, A u → A (u.setLane l none)
  powerOn : ∀ u, G u → G (powerOn u)

variable {G A : State → Prop} {s t : State} {i : SpoutId}

namespace SpoutMoves

variable (M : SpoutMoves G)
include M

theorem examinePressure (h : G s) : G (examinePressure i s) := by
  unfold Machine.examinePressure
  split
  · exact M.upd s i _ ⟨rfl, le_rfl⟩ h
  · exact h

theorem enterHeld (r : HeldReason) (h : G s) : G (enterHeld r i s) :=
  M.upd _ i _ ⟨rfl, le_rfl⟩ (M.release _ i (M.upd s i _ Spout.steady_shutGate h))

theorem enterTailing (r : EndReason) (h : G s) : G (enterTailing r i s) :=
  M.upd _ i _ ⟨rfl, le_rfl⟩ (M.release _ i (M.upd s i _ Spout.steady_shutGate h))

theorem enterFault (k : FaultKind) (h : G s) : G (enterFault k i s) := by
  unfold Machine.enterFault
  split
  · exact h
  · exact M.upd _ i _ (Spout.steady_fault k) (M.release _ i (M.upd s i _ Spout.steady_shutGate h))

theorem examineArmed (h : G s) : G (examineArmed i s) := by
  unfold Machine.examineArmed
  split
  · exact M.ask _ i (M.upd s i _ ⟨rfl, le_rfl⟩ h)
  · exact h

theorem openCompartment (h : G s) : G (openCompartment i s) :=
  M.examineArmed (M.upd s i _ Spout.steady_openCompartment h)

theorem probeCondition (h : G s) : G (probeCondition i s) := by
  unfold Machine.probeCondition
  split
  case h_4 => exact M.upd _ i _ ⟨rfl, le_rfl⟩ (M.release s i h)
  case h_1 | h_2 | h_3 => exact M.enterTailing _ h
  all_goals exact h

theorem bayCondition (h : G s) : G (bayCondition i s) := by
  unfold Machine.bayCondition
  split
  case h_1 | h_2 | h_3 => exact M.enterHeld _ h
  all_goals exact h

/-! ### The zero tracker -/

theorem examineZeroing (h : G s) : G (examineZeroing i s) := M.upd s i _ Spout.steady_examineZeroing h

theorem duePoint (h : G s) : G (duePoint i s) := by
  have h1 : G (s.upd i Spout.oweStep) := M.upd s i _ ⟨rfl, le_rfl⟩ h
  unfold Machine.duePoint
  dsimp only
  split
  · exact M.examineZeroing (M.upd _ i _ ⟨rfl, le_rfl⟩ h1)
  · exact M.examineZeroing h1

theorem countDue (h : G s) : G (countDue i s) := by
  unfold Machine.countDue
  split
  · exact M.duePoint h
  · split
    · exact h
    · exact M.upd s i _ ⟨rfl, le_rfl⟩ h

theorem endRetryWait (h : G s) : G (endRetryWait i s) := M.examineZeroing (M.upd s i _ ⟨rfl, le_rfl⟩ h)

theorem abandonStep (h : G s) : G (abandonStep i s) := M.upd s i _ Spout.steady_abandonStep h

theorem completeStep (h : G s) : G (completeStep i s) := by
  unfold Machine.completeStep
  split
  · exact h
  · next st _ =>
    split
    · exact M.upd s i _ (Spout.steady_trans (Spout.steady_completeNormal st) Spout.steady_examineZeroing) h
    · exact M.upd s i _ (Spout.steady_trans (Spout.steady_trans (Spout.steady_judge true st.sum) Spout.steady_endStep)
        Spout.steady_examineZeroing) h
    · split
      · exact M.openCompartment (M.upd s i _ (Spout.steady_completeMakeup st) h)
      · exact M.upd s i _ (Spout.steady_trans (Spout.steady_completeMakeup st) Spout.steady_examineZeroing) h

theorem stepSample (sample : Option (Nat × HeadStatus)) (h : G s) : G (stepSample i sample s) := by
  unfold Machine.stepSample
  split
  · split
    · exact M.completeStep (M.upd s i _ ⟨rfl, le_rfl⟩ h)
    · split
      · exact M.upd s i _ ⟨rfl, le_rfl⟩ h
      · exact M.abandonStep h
  · exact M.abandonStep h

theorem stepIf (sample : Option (Nat × HeadStatus)) (a : Bool) (h : G s) : G (stepIf i sample a s) := by
  unfold Machine.stepIf
  split
  · exact M.stepSample sample h
  · exact h

theorem dueAndStep (sample : Option (Nat × HeadStatus)) (a : Bool) (h : G s) : G (dueAndStep i sample a s) := by
  have hf : G { s with freeCount := s.freeCount + 1 } := M.free s _ h
  unfold Machine.dueAndStep
  split
  · dsimp only
    split
    · exact M.stepIf sample a (M.countDue hf)
    · exact M.countDue (M.stepIf sample a hf)
  · exact M.stepIf sample a (M.countDue h)

theorem zeroSample (sample : Option (Nat × HeadStatus)) (a b : Bool) (h : G s) : G (zeroSample i sample a b s) := by
  have hd : G (Machine.dueAndStep i sample a s) := M.dueAndStep sample a h
  unfold Machine.zeroSample retryIf
  split
  · unfold countRetry
    split
    · exact M.endRetryWait hd
    · exact M.upd _ i _ ⟨rfl, le_rfl⟩ hd
  · exact hd

/-! ### A sample handed on -/

theorem cutoffTests (h : G s) : G (cutoffTests i s) := by
  unfold Machine.cutoffTests
  split
  · exact M.enterTailing _ h
  · split
    · exact M.upd s i _ ⟨rfl, le_rfl⟩ h
    · exact h

theorem floodClosure (h : G s) : G (floodClosure i s) := M.upd _ i _ ⟨rfl, le_rfl⟩ (M.enterTailing _ h)

theorem countFlood (h : G s) : G (countFlood i s) := by
  unfold Machine.countFlood
  split
  · exact M.upd s i _ ⟨rfl, le_rfl⟩ h
  · split
    · exact M.floodClosure h
    · exact M.upd s i _ ⟨rfl, le_rfl⟩ h

theorem countAirLost (h : G s) : G (countAirLost i s) := by
  unfold Machine.countAirLost
  split
  · exact M.enterHeld _ h
  · exact M.upd s i _ ⟨rfl, le_rfl⟩ h

theorem countPressureWait (h : G s) : G (countPressureWait i s) := by
  unfold Machine.countPressureWait
  split
  · exact M.enterFault _ h
  · exact M.upd s i _ ⟨rfl, le_rfl⟩ h

theorem countStuck (h : G s) : G (countStuck i s) := by
  unfold Machine.countStuck
  split
  · exact M.enterFault _ h
  · exact M.upd s i _ ⟨rfl, le_rfl⟩ h

theorem countDuration (h : G s) : G (s.upd i Spout.countDuration) :=
  M.upd s i _ (by unfold Spout.countDuration; split <;> exact ⟨rfl, le_rfl⟩) h

theorem countTail (h : G s) : G (s.upd i Spout.countTail) := M.upd s i _ Spout.steady_countTail h
theorem countPacing (h : G s) : G (s.upd i Spout.countPacing) := M.upd s i _ Spout.steady_countPacing h

omit M in
theorem ite_carries {c : Prop} [Decidable c] (ht : G s) (he : G t) : G (if c then s else t) := by split <;> assumption

theorem controllerSample (h : G s) : G (controllerSample i s) :=
  have h0 := M.countDuration (i := i) h
  have h1 := ite_carries (M.cutoffTests h0) (ite_carries (M.countTail h0) h0)
  have h2 := ite_carries (M.countFlood h1) h1
  have h3 := M.countPacing h2
  have h4 := ite_carries (M.countAirLost h3) h3
  M.countStuck (ite_carries (M.countPressureWait h4) h4)

theorem handOn (sample : Option (Nat × HeadStatus)) (h : G s) : G (handOn i sample s) :=
  M.upd _ i _ (by unfold Spout.countReport; split <;> exact ⟨rfl, le_rfl⟩) (M.zeroSample _ _ _ (M.controllerSample h))

theorem goodSample (raw : Nat) (hs : HeadStatus) (h : G s) : G (goodSample i raw hs s) :=
  M.handOn _ (M.upd s i _ (Spout.steady_workGood raw hs) h)

theorem loseSample (h : G s) : G (loseSample i s) := ite_carries (M.enterFault _ h) h

theorem inFreeOrder {α : Type} (act : α → State → State) (ha : ∀ x u, G u → G (act x u)) (n : Nat) (xs : List α) (h : G s) :
    G (inFreeOrder act n xs s) := by
  induction n generalizing s xs with
  | zero => exact h
  | succ n ih =>
    unfold Machine.inFreeOrder
    split
    · exact h
    · exact ha _ _ h
    · exact ih _ (ha _ _ (M.free s _ h))

end SpoutMoves

namespace Events

variable (E : Events G)
include E

theorem missingSample (l : LaneId) (h : G s) : G (missingSample l i s) := by
  have hgap : G (s.updLane l fun e => { e with gap := e.gap.bump }) := E.lane s l _ (fun e _ => Lane.steady_gap 1) h
  have hcount : G (countMissing l i s) := E.abandonStep (E.upd _ i _ ⟨rfl, le_rfl⟩ hgap)
  exact SpoutMoves.ite_carries (E.handOn _ (E.upd _ i _ ⟨rfl, le_rfl⟩ hcount)) (E.loseSample hcount)

theorem missingSamples (l : LaneId) (n : Nat) (h : G s) : G (missingSamples l i n s) := by
  induction n generalizing s with
  | zero => exact h
  | succ n ih => exact ih (E.missingSample l h)

theorem starve (h : G s) : G (starve i s) := by
  unfold Machine.starve
  split
  · exact h
  · next l hl =>
    split
    · exact h
    · obtain ⟨e, he, -, hr⟩ := laneOf_some hl
      have hlane : G (s.updLane l fun e => { e with age := 50, stale := true }) :=
        E.lane s l _ (fun f hf => Lane.steady_starved (by rw [he] at hf; cases hf; exact hr)) h
      have hchan := E.upd _ i Spout.starveChannel ⟨rfl, le_rfl⟩ hlane
      exact SpoutMoves.ite_carries (E.enterFault _ hchan) (E.abandonStep hchan)

theorem laneGoesStale (l : LaneId) (h : G s) : G (laneGoesStale l s) := by
  unfold Machine.laneGoesStale
  split
  · exact h
  · next e he =>
    have hstale : e.role ≠ .force → G (s.updLane l Lane.goStale) := fun hr =>
      E.lane s l _ (fun f hf => Lane.steady_goStale (by rw [he] at hf; cases hf; exact hr)) h
    split
    · exact h
    · split
      · exact h
      · next hr => exact hstale (by simp [hr])
      · next hr => exact hstale (by simp [hr])
      · next hr => exact E.probeCondition (hstale (by simp [hr]))
      · next hr => exact E.bayCondition (hstale (by simp [hr]))

theorem deliverForce (l : LaneId) (seq : Byte) (hs : HeadStatus) (v : Nat) (h : G s) : G (deliverForce l i seq hs v s) := by
  unfold Machine.deliverForce
  dsimp only
  split
  · exact E.lane s l _ (fun _ _ => Lane.steady_countDup) h
  · have hfresh : G (s.updLane l Lane.refresh) := E.lane s l _ (fun _ _ => Lane.steady_refresh) h
    have hmissed := E.missingSamples (i := i) l (seqDistance (s.spout i).chan.lastSeq seq - 1)
      (E.upd _ i (Spout.acceptForce seq) ⟨rfl, le_rfl⟩ hfresh)
    split
    · exact E.missingSample l hmissed
    · exact E.goodSample _ _ hmissed
    · exact E.goodSample _ _ hmissed

theorem offerLatest (r : Role) (v : Nat) (h : G s) : G (offerLatest i r v s) := by
  cases r with
  | force => exact h
  | gate => exact h
  | air => exact E.examinePressure h
  | probe => exact SpoutMoves.ite_carries (E.probeCondition h) (E.examineArmed h)
  | bay => exact SpoutMoves.ite_carries (E.bayCondition h) (E.examineArmed h)

theorem takeLatest {l : LaneId} {e : Lane} (seq : Byte) (hs : HeadStatus) (v : Nat) (he : s.lane l = some e)
    (hr : e.role ≠ .force) (h : G s) : G (takeLatest l e seq hs v s) := by
  unfold Machine.takeLatest
  dsimp only
  split
  · exact E.lane s l _ (fun _ _ => Lane.steady_countDup) h
  · have haccept : G (s.updLane l (Lane.accept seq (seqDistance e.lastSeq seq) hs)) :=
      E.lane s l _ (fun f hf => Lane.steady_accept _ _ _ (by rw [he] at hf; cases hf; exact hr)) h
    split
    · exact haccept
    · exact E.offerLatest _ _ (E.lane _ l _ (fun _ _ => Lane.steady_store v) haccept)

theorem actOnSample {l : LaneId} {e : Lane} (run : Run) (he : s.lane l = some e) (h : G s) : G (actOnSample l e run s) := by
  unfold Machine.actOnSample
  dsimp only
  split
  · exact E.deliverForce _ _ _ _ h
  all_goals next hr => exact E.takeLatest _ _ _ he (by simp [hr]) h

theorem routeSample {l : LaneId} {e : Lane} (run : Run) (he : s.lane l = some e) (h : G s) : G (routeSample l e run s) := by
  have hlane : (forwardCopy e run s).lane l = some e := by
    unfold forwardCopy Machine.passToPlant
    split
    · split <;> exact he
    · exact he
  unfold Machine.routeSample
  split
  · exact E.framing s h
  · split
    · exact E.actOnSample run hlane (SpoutMoves.ite_carries (E.toPlant s run h) h)
    · exact E.lane s l _ (fun _ _ => Lane.steady_crc) h

theorem fPortRun (run : Run) (h : G s) : G (fPortRun run s) := by
  unfold Machine.fPortRun
  split
  · exact E.framing s h
  · split
    · split
      · exact E.toPlant s run h
      · next l e hn =>
        obtain ⟨m, -, hm⟩ := Option.bind_eq_some_iff.mp hn
        obtain ⟨f, hf, hlf⟩ := Option.map_eq_some_iff.mp hm
        cases hlf
        exact E.routeSample run hf h
    · exact E.toPlant s run h

theorem expireSilence (h : G s) : G (expireSilence s) :=
  E.silenceMark _ _ (E.inFreeOrder _ (fun _ _ hu => SpoutMoves.ite_carries (E.enterHeld _ hu) hu) _ _ (E.silent s h))

theorem expireLane (l : LaneId) (h : G s) : G (expireLane l s) := by
  unfold Machine.expireLane
  split
  · exact h
  · split
    · exact E.starve h
    all_goals exact E.laneGoesStale l h

theorem expire (x : Expiry) (h : G s) : G (expire x s) := by
  cases x with
  | lane l => exact E.expireLane l h
  | silence => exact SpoutMoves.ite_carries (E.expireSilence h) h

end Events

/-! ### The requests -/

theorem getParamAct_state (ps : List Byte) (s : State) : (getParamAct ps s).state = s := by
  unfold Machine.getParamAct
  repeat' split
  all_goals rfl

theorem resultsAct_state (ps : List Byte) (s : State) : (resultsAct ps s).state = s := by
  unfold Machine.resultsAct
  dsimp only
  repeat' split
  all_goals rfl

theorem statusAct_state (ps : List Byte) (s : State) : (statusAct ps s).state = s := by
  unfold Machine.statusAct
  repeat' split
  all_goals rfl

/-- R27: a write leaves the cursor where it was, or advances it within the window. -/
theorem foldl_take_cursor (last : Nat) (vs : List Nat) (w : Writing) :
    (vs.foldl (Writing.take last) w).cursor = w.cursor ∨
      (w.cursor ≤ (vs.foldl (Writing.take last) w).cursor ∧ (vs.foldl (Writing.take last) w).cursor ≤ last + 1) := by
  induction vs generalizing w with
  | nil => exact .inl rfl
  | cons v rest ih =>
    rw [List.foldl_cons]
    by_cases hc : w.cursor ≤ last
    · have e : (Writing.take last w v).cursor = w.cursor + 1 := by rw [Writing.take_stores hc]
      have := ih (Writing.take last w v)
      omega
    · rw [Writing.take_skips (by omega)]
      exact ih w

theorem onSpout_isRestart (ps : List Byte) (act : SpoutId → State → State × Status) (s : State) :
    (onSpout ps act s).isRestart = false := by
  unfold onSpout
  repeat' split
  all_goals rfl

theorem writeAct_isRestart (cursor : Nat) (ps : List Byte) (s : State) : (writeAct cursor ps s).isRestart = false := by
  unfold writeAct
  repeat' split
  all_goals rfl

theorem readAct_isRestart (cursor : Nat) (ps : List Byte) (s : State) : (readAct cursor ps s).isRestart = false := by
  unfold readAct
  repeat' split
  all_goals rfl

/-- R184: only RESTART marks its response. -/
theorem handler_isRestart (k : RequestKind) (hk : k ≠ .restart) (ps : List Byte) (s : State) :
    (handler k ps s).isRestart = false := by
  cases k <;> simp only [handler]
  case restart => exact absurd rfl hk
  case ident => rfl
  case keepalive => rfl
  case writePoints => exact writeAct_isRestart _ ps s
  case writeMore => exact writeAct_isRestart _ ps s
  case readPoints => exact readAct_isRestart _ ps s
  case readMore => exact readAct_isRestart _ ps s
  case proceed => exact onSpout_isRestart ps _ s
  case abort => exact onSpout_isRestart ps _ s
  case hold => exact onSpout_isRestart ps _ s
  case resume => exact onSpout_isRestart ps _ s
  case park => exact onSpout_isRestart ps _ s
  case unpark => exact onSpout_isRestart ps _ s
  case clear => exact onSpout_isRestart ps _ s
  case zeroNow => exact onSpout_isRestart ps _ s
  all_goals
    simp only [assignAct, setParamAct, setDeviceAct, setSpoutAct, getParamAct, statusAct, countersAct, openWindowAct,
      activateAct, activateSpout, mapLaneAct, mapLaneChecked, unmapLaneAct, setChainAct, enqueueAct, enqueueChecked,
      cancelAct, cancelSpout, resultsAct]
    repeat' split
    all_goals rfl

namespace Acts

variable (C : Acts A)
include C

theorem setDeviceAct (number value : Nat) (h : A s) : A (setDeviceAct number value s).state := by
  have hrange : ∀ lo hi n : Nat, lo ≤ hi → lo ≤ clamp lo hi n ∧ clamp lo hi n ≤ hi := fun lo hi n hle => by
    rw [clamp_eq _ _ _ hle]; omega
  unfold Machine.setDeviceAct
  split
  · exact h
  · next q _ =>
    cases q with
    | silence => exact C.silenceK s _ (hrange 0 7 value (by omega)).2 h
    | grantCount =>
      have hv := hrange 1 4 value (by omega)
      show A (setDeviceParam .grantCount (clamp 1 4 value) s)
      unfold setDeviceParam
      dsimp only
      split
      · next hlt => exact C.grantRaise s _ hv.2 hlt h
      · next hle => exact C.grantLower s _ hv.1 (by omega) h

theorem setParamAct (ps : List Byte) (h : A s) : A (setParamAct ps s).state := by
  unfold Machine.setParamAct
  split
  · exact h
  · split
    · exact C.setDeviceAct _ _ h
    · split
      · exact h
      · unfold setSpoutAct
        split
        · exact h
        · split
          · exact h
          · exact C.upd s _ _ (Spout.steady_setParam _ _) h

theorem countersAct (ps : List Byte) (h : A s) : A (countersAct ps s).state := by
  unfold Machine.countersAct
  dsimp only
  split
  · exact h
  · exact C.clearCounters s _ h

theorem openWindowAct (ps : List Byte) (h : A s) : A (openWindowAct ps s).state := by
  unfold Machine.openWindowAct
  split
  · exact h
  · split
    · exact h
    · split
      · exact h
      · split
        · exact h
        · next hrange =>
          rw [not_or, not_lt, not_lt] at hrange
          exact C.window s _ hrange.2 hrange.1 rfl h

theorem writeAct (cursor : Nat) (ps : List Byte) (hc : cursor = s.window.first ∨ cursor = s.window.cursor) (h : A s) :
    A (writeAct cursor ps s).state := by
  unfold Machine.writeAct
  split
  · exact h
  · split
    · exact h
    · split
      · exact h
      · have hcursor := C.cursor s cursor (writeFrom cursor ps s).cursor hc
          (foldl_take_cursor s.window.last (writeValues ps) ⟨_, cursor, 0, false⟩) h
        exact SpoutMoves.ite_carries hcursor (C.upd _ _ _ ⟨rfl, le_rfl⟩ hcursor)

theorem readAct (cursor : Nat) (ps : List Byte) (hc : cursor = s.window.first ∨ cursor = s.window.cursor) (h : A s) :
    A (readAct cursor ps s).state := by
  unfold Machine.readAct
  split
  · exact h
  · split
    · exact h
    · refine C.cursor s cursor _ hc ?_ h
      simp only [readPoints, List.length_map, List.length_range]
      omega

theorem activateAct (ps : List Byte) (h : A s) : A (activateAct ps s).state := by
  unfold Machine.activateAct
  split
  · exact h
  · split
    · exact h
    · next i _ =>
      have hclosed : A (Machine.closeWindow i s) := SpoutMoves.ite_carries (C.closeWindow s h) h
      unfold activateSpout
      dsimp only
      split
      · exact hclosed
      · split
        · exact C.upd _ i _ ⟨rfl, le_rfl⟩ hclosed
        · split
          · exact C.upd _ i _ ⟨rfl, le_rfl⟩ hclosed
          · exact C.upd _ i _ ⟨rfl, le_rfl⟩ hclosed

theorem mapLaneAct (ps : List Byte) (h : A s) : A (mapLaneAct ps s).state := by
  unfold Machine.mapLaneAct
  split
  · exact h
  · split
    · exact h
    · next i _ =>
      split
      · next l r _ _ =>
        split
        · unfold mapLaneChecked
          split
          · exact h
          · split
            · exact h
            · next hlane =>
              split
              · exact h
              · next hrole =>
                have hmap := C.mapLane s l i r (byteAt ps 3 == 1) (by simpa using hlane) (by simpa using hrole) h
                exact SpoutMoves.ite_carries (C.upd _ i _ ⟨rfl, le_rfl⟩ hmap) hmap
        · exact h
      · exact h

theorem setChainAct (ps : List Byte) (h : A s) : A (setChainAct ps s).state := by
  unfold Machine.setChainAct
  dsimp only
  split
  · next hc => exact C.chain s _ hc.2 h
  · exact h

theorem enqueueAct (ps : List Byte) (h : A s) : A (enqueueAct ps s).state := by
  unfold Machine.enqueueAct
  split
  · exact h
  · split
    · exact h
    · next i _ =>
      split
      · exact h
      · unfold enqueueChecked
        dsimp only
        split
        · exact h
        · split
          · exact h
          · split
            · exact h
            · split
              · exact h
              · next hpool => exact C.join s i _ (by omega) h

theorem cancelAct (ps : List Byte) (h : A s) : A (cancelAct ps s).state := by
  unfold Machine.cancelAct
  split
  · exact h
  · split
    · exact h
    · next i _ =>
      unfold cancelSpout
      dsimp only
      split
      · exact h
      · split
        · split
          · next q hq => exact C.upd s i (fun _ => q) (Spout.steady_cancelHead hq) h
          · exact h
        · exact C.upd s i _ ⟨rfl, List.length_filter_le ..⟩ h

theorem proceed (h : A s) : A (proceed i s).1 := by
  have hmark : A (s.upd i Spout.markProceed) := C.upd s i _ ⟨rfl, le_rfl⟩ h
  have hopen : A (Machine.openCompartment i s) := C.openCompartment h
  unfold Machine.proceed
  split
  case h_1 =>
    split
    · exact hmark
    · exact hopen
  case h_2 =>
    unfold proceedZeroing
    split
    · exact hmark
    · exact hopen
    · exact hopen
    · exact h
    · exact h
  all_goals exact h

theorem abort (h : A s) : A (abort i s).1 := by
  have hmarked : A (s.upd i Spout.markAborted) := C.upd s i _ Spout.steady_markAborted h
  have hwaiting : A (abortWaiting i s) :=
    C.upd _ i _ (Spout.steady_trans (Spout.steady_recordResult _) Spout.steady_moveOn) (C.release _ i hmarked)
  have hloading : A (abortLoading i s) := C.enterTailing _ hmarked
  unfold Machine.abort
  split
  case h_1 | h_2 => exact hwaiting
  case h_3 | h_4 | h_5 => exact hloading
  case h_6 =>
    split
    · exact h
    · exact C.upd s i _ (Spout.steady_markAborted (p := s.spout i)) h
  case h_7 =>
    exact C.upd s i _ (Spout.steady_trans (q := ((s.spout i).retireHead 2).clearProceed)
      ⟨rfl, by simp [Spout.clearProceed, Spout.retireHead]⟩ Spout.steady_settle) h
  all_goals exact h

theorem hold (h : A s) : A (hold i s).1 := by
  unfold Machine.hold
  split
  case h_1 | h_2 | h_3 | h_4 => exact C.enterHeld _ h
  all_goals exact h

theorem resume (h : A s) : A (resume i s).1 := by
  have hleft : A (s.upd i Spout.leaveHeld) := C.upd s i _ ⟨rfl, le_rfl⟩ h
  unfold Machine.resume
  split
  · split
    · exact h
    · exact SpoutMoves.ite_carries (C.probeCondition hleft)
        (SpoutMoves.ite_carries (C.bayCondition hleft) (C.ask _ i hleft))
  · exact h

theorem park (h : A s) : A (park i s).1 := by
  have hpark : A (s.upd i Spout.park) := C.upd s i _ ⟨rfl, le_rfl⟩ h
  unfold Machine.park
  split
  case h_1 => exact hpark
  case h_3 =>
    split
    · exact h
    · exact hpark
    · exact hpark
  all_goals exact h

theorem unpark (h : A s) : A (unpark i s).1 := by
  unfold Machine.unpark
  split
  · split
    · exact C.upd s i _ (Spout.steady_examineZeroing (p := ({ s.spout i with zero := _ } : Spout).enter .idle)) h
    · exact h
  · exact h

theorem clear (h : A s) : A (clear i s).1 := by
  unfold Machine.clear
  split
  · split
    · exact h
    · exact C.upd s i _ (Spout.steady_moveOn (p := { s.spout i with ctl := _ })) h
  · exact h

theorem zeroNow (h : A s) : A (zeroNow i s).1 := by
  unfold Machine.zeroNow
  split
  case h_1 | h_2 => exact C.upd s i _ Spout.steady_zeroNow h
  all_goals exact h

theorem onSpout (ps : List Byte) (act : SpoutId → State → State × Status) (ha : ∀ i, A (act i s).1) (h : A s) :
    A (onSpout ps act s).state := by
  unfold Machine.onSpout
  split
  · exact h
  · split
    · exact h
    · exact ha _

theorem handler (k : RequestKind) (hk : k ≠ .restart) (hu : k ≠ .unmapLane) (ps : List Byte) (h : A s) :
    A (handler k ps s).state := by
  cases k with
  | restart => exact absurd rfl hk
  | unmapLane => exact absurd rfl hu
  | ident => exact h
  | assign =>
    show A (assignAct ps s).state
    unfold assignAct
    split
    · next ha => exact C.address s _ ha.2 h
    · exact h
  | keepalive => exact h
  | setParam => exact C.setParamAct ps h
  | getParam => exact (getParamAct_state ps s).symm ▸ h
  | status => exact (statusAct_state ps s).symm ▸ h
  | counters => exact C.countersAct ps h
  | openWindow => exact C.openWindowAct ps h
  | writePoints => exact C.writeAct _ ps (.inl rfl) h
  | writeMore => exact C.writeAct _ ps (.inr rfl) h
  | readPoints => exact C.readAct _ ps (.inl rfl) h
  | readMore => exact C.readAct _ ps (.inr rfl) h
  | activate => exact C.activateAct ps h
  | mapLane => exact C.mapLaneAct ps h
  | setChain => exact C.setChainAct ps h
  | enqueue => exact C.enqueueAct ps h
  | cancel => exact C.cancelAct ps h
  | results => exact (resultsAct_state ps s).symm ▸ h
  | proceed => exact C.onSpout ps _ (fun _ => C.proceed h) h
  | abort => exact C.onSpout ps _ (fun _ => C.abort h) h
  | hold => exact C.onSpout ps _ (fun _ => C.hold h) h
  | resume => exact C.onSpout ps _ (fun _ => C.resume h) h
  | park => exact C.onSpout ps _ (fun _ => C.park h) h
  | unpark => exact C.onSpout ps _ (fun _ => C.unpark h) h
  | clear => exact C.onSpout ps _ (fun _ => C.clear h) h
  | zeroNow => exact C.onSpout ps _ (fun _ => C.zeroNow h) h

end Acts

namespace Courses

variable (C : Courses A G) {R : State → Prop} (hR : ∀ u, G u → R u)
include C

theorem chooseField (is : List SpoutId) (h : G s) : G (chooseField is s) := by
  induction is generalizing s with
  | nil =>
    unfold Machine.chooseField sendFieldPass
    split
    · next run rest e => exact C.sendField s rest _ ⟨[run], e⟩ h
    · exact h
  | cons i rest ih =>
    unfold Machine.chooseField
    split
    · split
      · have hsent : G (s.upd i fun p => { p with gatePending := false, orderSeq := p.orderSeq + 1 }) :=
          C.upd s i _ ⟨rfl, le_rfl⟩ h
        exact C.sendField _ s.fieldFifo _ ⟨[], rfl⟩ hsent
      · exact ih (C.upd s i _ ⟨rfl, le_rfl⟩ h)
    · exact ih h

theorem serveLines (h : G s) : G (serveLines s) := by
  have hplant := C.servePlant s h
  unfold Machine.serveLines serveField
  split
  · exact hplant
  · exact C.chooseField _ hplant

theorem acceptRequest (number : Byte) {code : Byte} {k : RequestKind} (hk : k ≠ .unmapLane) (ps : List Byte)
    (hp : s.restartPending = false) (hf : s.respFifo.length < 4) (h : G s) : G (acceptRequest number code (handler k ps) s) := by
  have hplain : (handler k ps s).isRestart = false → A (handler k ps s).state →
      G (Machine.acceptRequest number code (handler k ps) s) := fun hr ha => C.replied _ _ hr ha
  by_cases hr : k = .restart
  · subst hr
    by_cases hps : ps.length = 0
    · have hact : handler .restart ps s =
          { state := { s with restartPending := true }, status := .ok, data := .bytes [], isRestart := true } := by
        simp [handler, restartAct, hps]
      unfold Machine.acceptRequest placeResponse
      rw [hact]
      exact C.restarting s _ rfl hp hf h
    · have hact : handler .restart ps s = Act.only s .badParam (.bytes []) := by simp [handler, restartAct, hps]
      exact hplain (by rw [hact]; rfl) (by rw [hact]; exact C.taken s hp hf h)
  · exact hplain (handler_isRestart k hr ps s) (C.acts.handler k hr hk ps (C.taken s hp hf h))

/-- R167, R184: an UNMAP_LANE that is taken. -/
def unmapTaken (R : State → Prop) (s : State) : Prop :=
  ∀ number code ps, s.restartPending = false → s.respFifo.length < 4 →
    R (Machine.acceptRequest number code (unmapLaneAct ps) s)

include hR

theorem request (hunmap : unmapTaken R s) (number : Byte) {code : Byte} (k : RequestKind) (ps : List Byte)
    (hp : s.restartPending = false) (hf : s.respFifo.length < 4) (h : G s) :
    R (Machine.acceptRequest number code (handler k ps) s) := by
  by_cases hk : k = .unmapLane
  · subst hk
    exact hunmap number code ps hp hf
  · exact hR _ (C.acceptRequest number hk ps hp hf h)

theorem perform (hunmap : unmapTaken R s) (number code : Byte) (ps : List Byte) (hp : s.restartPending = false)
    (hf : s.respFifo.length < 4) (h : G s) : R (Machine.acceptRequest number code (perform code ps) s) := by
  cases hk : requestKind code with
  | some k =>
    have e : Machine.perform code ps = handler k ps := by funext u; simp [Machine.perform, hk]
    rw [e]
    exact C.request hR hunmap number k ps hp hf h
  | none =>
    have e : Machine.perform code ps = fun u => unknownAct u := by funext u; simp [Machine.perform, hk]
    rw [e]
    exact hR _ (C.replied _ _ rfl (C.taken s hp hf h))

theorem reachHandler (number code : Byte) (act : State → Act)
    (ha : s.restartPending = false → s.respFifo.length < 4 → R (Machine.acceptRequest number code act s)) (h : G s) :
    R (reachHandler number code act s) := by
  unfold Machine.reachHandler
  split
  · exact hR _ h
  · next hp =>
    split
    · next hf => exact ha (by simpa using hp) hf
    · exact hR _ (C.requestOverrun s h)

theorem requestCourse (hd : ReqHeader) (code : Byte) (ps : List Byte) (act : State → Act)
    (ha : s.restartPending = false → s.respFifo.length < 4 → R (Machine.acceptRequest hd.number code act s)) (h : G s) :
    R (requestCourse hd code ps act s) := by
  unfold Machine.requestCourse
  exact SpoutMoves.ite_carries (hR _ (C.framing s h)) (SpoutMoves.ite_carries (hR _ (C.toField s _ h))
    (SpoutMoves.ite_carries (hR _ (C.framing s h)) (C.reachHandler hR _ _ _ ha h)))

theorem pPortRun (hunmap : unmapTaken R s) (run : Run) (h : G s) : R (pPortRun run s) := by
  have hframing := hR _ (C.framing s h)
  have hfield := hR _ (C.toField s run h)
  have hrequest : R (requestRun run s) := SpoutMoves.ite_carries hfield
    (SpoutMoves.ite_carries (hR _ (C.crc s h)) (SpoutMoves.ite_carries hframing
      (C.reachHandler hR _ _ _ (fun hp hf => C.perform hR hunmap _ _ _ hp hf h) h)))
  have hshort : R (shortRequestRun run s) := SpoutMoves.ite_carries hframing hfield
  exact SpoutMoves.ite_carries hframing (SpoutMoves.ite_carries (SpoutMoves.ite_carries hshort hrequest) hfield)

/-- What a command comes to before the arbiters choose, from a property that all changes but UNMAP_LANE and a power-on reset
carry over. -/
theorem exec_reaches (c : Instr) (hunmap : unmapTaken R s) (hpower : c = .powerOnReset → R (powerOn s)) (h : G s) :
    ∃ u, exec c s = finish u ∧ R u := by
  cases hc : c.request? with
  | some r =>
    obtain ⟨k, hd, ps⟩ := r
    rw [exec_request hc]
    exact ⟨_, rfl, C.requestCourse hR _ _ _ _ (fun hp hf => C.request hR hunmap _ k ps hp hf h) h⟩
  | none =>
    have hite : ∀ {P : Prop} [Decidable P] {u : State}, G u → R (if P then u else s) :=
      fun hu => hR _ (SpoutMoves.ite_carries hu h)
    cases c <;> simp only [Instr.request?, reduceCtorEq] at hc
    case powerOnReset => exact ⟨_, rfl, hpower rfl⟩
    case fPortFrame run => exact ⟨_, rfl, hR _ (C.fPortRun run h)⟩
    case sampleLoss sp =>
      refine ⟨_, rfl, ?_⟩
      split
      · exact hite (C.missingSample _ h)
      · exact hR _ h
    case starvation sp => exact ⟨_, rfl, hR _ (C.starve h)⟩
    case laneStale l => exact ⟨_, rfl, hR _ (C.laneGoesStale l h)⟩
    case duePoint sp => exact ⟨_, rfl, hite (C.duePoint h)⟩
    case stepComplete sp raw => exact ⟨_, rfl, hite (C.completeStep (C.upd s sp _ ⟨rfl, le_rfl⟩ h))⟩
    case retryWaitEnd sp => exact ⟨_, rfl, hite (C.endRetryWait h)⟩
    case pacingPoint sp => exact ⟨_, rfl, hite (C.upd s sp _ Spout.steady_pace h)⟩
    case reportIntervalExpiry sp => exact ⟨_, rfl, hite (C.upd s sp _ ⟨rfl, le_rfl⟩ h)⟩
    case floodDrop sp => exact ⟨_, rfl, hite (C.upd s sp _ ⟨rfl, le_rfl⟩ h)⟩
    case floodClosure sp => exact ⟨_, rfl, hite (C.floodClosure h)⟩
    case gateStuck sp => exact ⟨_, rfl, hite (C.enterFault _ h)⟩
    case airFail sp => exact ⟨_, rfl, hite (C.enterFault _ h)⟩
    case airLost sp => exact ⟨_, rfl, hite (C.enterHeld _ h)⟩
    case tailSettled sp => exact ⟨_, rfl, hite (C.upd s sp _ (Spout.steady_endTail _) h)⟩
    case tailTimeout sp => exact ⟨_, rfl, hite (C.upd s sp _ (Spout.steady_endTail _) h)⟩
    case silenceExpiry => exact ⟨_, rfl, hite (C.expireSilence h)⟩
    case pPortFrame run => exact ⟨_, rfl, C.pPortRun hR hunmap run h⟩
    case unknownRequest hd code ps =>
      exact ⟨_, rfl, C.requestCourse hR _ _ _ _ (fun hp hf => C.perform hR hunmap _ _ _ hp hf h) h⟩
    case pPortLineFree => exact ⟨_, rfl, hR _ (C.endPlant s h)⟩
    case fPortLineFree => exact ⟨_, rfl, hR _ (C.freeField s h)⟩

end Courses

namespace Carries

variable (C : Carries A G)
include C

theorem unmapLaneAct (ps : List Byte) (h : A s) : A (unmapLaneAct ps s).state := by
  unfold Machine.unmapLaneAct
  split
  · exact h
  · split
    · exact h
    · next l _ =>
      split
      · exact h
      · split
        · exact h
        · have hunmap := C.unmapLane s l h
          exact SpoutMoves.ite_carries (C.acts.upd _ _ _ ⟨rfl, le_rfl⟩ hunmap) hunmap

theorem finish {u : State} (h : G u) (he : finish u = .next t) : G t := by
  cases he
  exact C.serveLines h

theorem unmapTaken (h : G s) : Courses.unmapTaken G s := fun number code ps hp hf => by
  have hact := C.unmapLaneAct ps (C.taken s hp hf h)
  exact C.replied _ _ (handler_isRestart .unmapLane (by simp) ps s) hact

/-- Every command carries the property over. -/
theorem exec (c : Instr) (h : G s) (he : exec c s = .next t) : G t := by
  obtain ⟨u, e, hu⟩ := C.exec_reaches (fun _ => id) c (C.unmapTaken h) (fun _ => C.powerOn s h) h
  exact C.finish hu (e ▸ he)

/-- A passing millisecond carries the property over, if its being older does. -/
theorem tick (holder : G s.older) (he : tick s = .next t) : G t :=
  C.finish (C.inFreeOrder _ (fun x _ hu => C.expire x hu) _ _ holder) he

end Carries

/-- Every step carries over a property that every change of the device carries over. The queue is read by none. -/
theorem step_carries (C : Carries A G) (holder : G s → G s.older) (hqueue : ∀ rest, G s → G { s with pending := rest })
    (h : G s) (he : step s = .next t) : G t := by
  unfold step at he
  split at he
  · next c rest _ => exact C.exec c (hqueue rest h) he
  · exact C.tick (holder h) he

/-! ### Rules for the device's own moves -/

/-- A property that only the device decides is left alone by the moves of spouts. -/
theorem SpoutMoves.of_device (hG : ∀ u v : State, v.device = u.device → G u → G v) : SpoutMoves G where
  upd _ _ _ _ := hG _ _ rfl
  release u i := hG _ _ (releaseAir_device u i)
  ask u i := hG _ _ (askForAir_device u i)
  free _ _ := hG _ _ rfl

/-- R165: what the plant-bound arbiter may do: nothing, send a frame or a response, or send from a mark or a flag. -/
theorem servePlant_rule (hstay : G s)
    (hpass : ∀ run rest, s.plantLine = none → s.plantFifo = run :: rest →
      G { s with plantFifo := rest, plantLine := some ⟨run, false⟩ })
    (hresp : ∀ r rest, s.plantLine = none → s.respFifo = r :: rest → G { s with respFifo := rest, plantLine := some r })
    (hmark : ∀ i f last silence overrun frame, s.plantLine = none → (∀ p : Spout, p.steady (f p)) →
      G { s.upd i f with
        lastReported := last, silenceMark := silence, overrunMark := overrun, plantLine := some ⟨frame, false⟩ }) :
    G (servePlant s) := by
  unfold servePlant
  split
  · exact hstay
  · next hnone =>
    have hnoSpout : ∀ silence overrun frame,
        G { s with silenceMark := silence, overrunMark := overrun, plantLine := some ⟨frame, false⟩ } := by
      intro silence overrun frame
      have h := hmark 0 (fun p => p) s.lastReported silence overrun frame hnone Spout.steady_refl
      rwa [upd_id] at h
    split
    · next run rest e => exact hpass run rest hnone e
    · split
      · next r rest e => exact hresp r rest hnone e
      · unfold chooseMark
        split
        · exact hmark _ _ s.lastReported s.silenceMark s.overrunMark _ hnone fun _ => ⟨rfl, le_rfl⟩
        · split
          · exact hnoSpout _ s.overrunMark _
          · split
            · exact hnoSpout s.silenceMark _ _
            · split
              · next i _ => exact hmark i _ i s.silenceMark s.overrunMark _ hnone fun _ => ⟨rfl, le_rfl⟩
              · exact hstay

/-- R157: the lanes and the port counters are all that a clearing of counters writes. -/
theorem clearCounters_eq (ls : List LaneId) (s : State) :
    clearCounters ls s = { s with
      lanes := (clearCounters ls s).lanes
      crcCount := Counter.zero, framingCount := Counter.zero, overrunCount := Counter.zero
      requestOverrunCount := Counter.zero } := by
  have hfold : ∀ (ls : List LaneId) (u : State),
      ls.foldl (fun t l => t.updLane l Lane.clearCounters) u =
        { u with lanes := (ls.foldl (fun t l => t.updLane l Lane.clearCounters) u).lanes } := by
    intro ls
    induction ls with
    | nil => exact fun _ => rfl
    | cons l rest ih => exact fun u => ih (u.updLane l Lane.clearCounters)
  exact hfold ls _

end Sys2Proof.Machine
end

section
/-! PROOFS. After every grant decision no place is free while a spout waits (R138), so the arbiter stays sound, and the
settled statement about grants, waiters and pressure waits. -/

set_option Elab.async false

namespace Sys2Proof.Machine

variable {s : State} {i j : SpoutId}

/-! ### Grant decisions fill every place -/

/-- R138: while a spout waits, every place is taken. -/
def State.filled (s : State) : Prop := (∃ i, (s.spout i).place = .waiter) → s.grantCount ≤ s.holders

theorem grantTo_place (i j : SpoutId) (s : State) :
    ((grantTo i s).spout j).place = if j = i then .holder else (s.spout j).place := by
  have hexamine : ((examinePressure i (s.upd i Spout.takeGrant)).spout j).place = ((s.upd i Spout.takeGrant).spout j).place := by
    unfold examinePressure
    split
    · exact place_upd rfl j
    · rfl
  rw [grantTo, hexamine, spout_upd]
  split
  · rfl
  · rfl

theorem holders_eq_countP (s : State) : s.holders = spoutIds.countP fun i => (s.spout i).place == .holder :=
  List.countP_eq_length_filter.symm

theorem holders_grantTo (hw : (s.spout i).place = .waiter) : (grantTo i s).holders = s.holders + 1 := by
  simp only [holders_eq_countP, grantTo_place, spoutIds, List.countP_cons, List.countP_nil]
  fin_cases i <;> simp_all <;> omega

theorem place_holder_of_four (h : 4 ≤ s.holders) (i : SpoutId) : (s.spout i).place = .holder := by
  have hall : spoutIds.countP (fun i => (s.spout i).place == .holder) = spoutIds.length := by
    have hle : spoutIds.countP (fun i => (s.spout i).place == .holder) ≤ spoutIds.length := List.countP_le_length
    have hlen : spoutIds.length = 4 := rfl
    rw [holders_eq_countP] at h
    omega
  have hmem : i ∈ spoutIds := by fin_cases i <;> decide
  simpa using List.countP_eq_length.mp hall i hmem

theorem firstWaiter_none (hc : isChain s.chain = true) (h : s.firstWaiter = none) (i : SpoutId) :
    (s.spout i).place ≠ .waiter := by
  have hmem : i ∈ s.chain := (isChain_iff_perm.mp hc).symm.subset (by fin_cases i <;> decide)
  simpa using List.find?_eq_none.mp h i hmem

theorem decideGrants_filled (n : Nat) (hc : isChain s.chain = true) (hn : 4 ≤ s.holders + n) : (decideGrants n s).filled := by
  induction n generalizing s with
  | zero =>
    rintro ⟨i, hi⟩
    rw [decideGrants, place_holder_of_four hn i] at hi
    cases hi
  | succ n ih =>
    unfold decideGrants
    split
    · split
      · next i hi =>
        have hw := firstWaiter_waits hi
        have hchain : (grantTo i s).chain = s.chain := chain_of_device (grantTo_device s i)
        exact ih (by rw [hchain]; exact hc) (by rw [holders_grantTo hw]; omega)
      · next hnone =>
        rintro ⟨i, hi⟩
        exact absurd hi (firstWaiter_none hc hnone i)
    · next hle => exact fun _ => not_lt.mp hle

theorem grantDecision_filled (hc : isChain s.chain = true) : (grantDecision s).filled :=
  decideGrants_filled 4 hc (by omega)

theorem grantsSound_grantDecision (hc : isChain s.chain = true) (h1 : 1 ≤ s.grantCount) (h4 : s.grantCount ≤ 4) :
    (grantDecision s).grantsSound := by
  have hd := grantDecision_device s
  refine ⟨?_, ?_, ?_, grantDecision_filled hc⟩
  · rw [chain_of_device hd]; exact hc
  · rw [grantCount_of_device hd]; exact h1
  · rw [grantCount_of_device hd]; exact h4

/-! ### The arbiter through every change -/

theorem grantsSound_upd {f : Spout → Spout} (hf : (f (s.spout i)).place = (s.spout i).place) (h : s.grantsSound) :
    (s.upd i f).grantsSound := by
  obtain ⟨hc, h1, h4, hfill⟩ := h
  refine ⟨hc, h1, h4, ?_⟩
  rintro ⟨k, hk⟩
  rw [place_upd hf] at hk
  rw [holders_upd hf]
  exact hfill ⟨k, hk⟩

theorem holders_giveUpAir (hi : (s.spout i).place ≠ .holder) : (s.upd i Spout.giveUpAir).holders = s.holders := by
  have hplace : ∀ k, (((s.upd i Spout.giveUpAir).spout k).place == AirPlace.holder) = ((s.spout k).place == .holder) := by
    intro k
    rw [spout_upd]
    split
    · next e => subst e; simp [hi]
    · rfl
  simp only [State.holders, hplace]

theorem grantsSound_releaseAir (i : SpoutId) (h : s.grantsSound) : (releaseAir i s).grantsSound := by
  obtain ⟨hc, h1, h4, hfill⟩ := h
  unfold releaseAir
  dsimp only
  split
  · exact grantsSound_grantDecision hc h1 h4
  · next hi =>
    refine ⟨hc, h1, h4, ?_⟩
    rintro ⟨k, hk⟩
    rw [holders_giveUpAir hi]
    refine hfill ⟨k, ?_⟩
    rw [spout_upd] at hk
    split at hk
    · simp at hk
    · exact hk

theorem grantsSound_moves : SpoutMoves State.grantsSound where
  upd _ _ _ hs h := grantsSound_upd hs.1 h
  release _ i h := grantsSound_releaseAir i h
  ask _ _ h := grantsSound_grantDecision h.1 h.2.1 h.2.2.1
  free _ _ h := h

theorem grantsSound_noteAccepted (h : s.grantsSound) : (noteAccepted s).grantsSound := by
  cases hs : s.silent with
  | false => rw [noteAccepted_of_not_silent hs]; exact h
  | true =>
    by_cases hr : ∃ i, s.awoken.releasable i = true
    · rw [noteAccepted_of_exists hs hr]
      obtain ⟨hc, h1, h4, -⟩ := h
      have hd := allJoined_device s.awoken
      exact grantsSound_grantDecision (by rw [chain_of_device hd]; exact hc) (by rw [grantCount_of_device hd]; exact h1)
        (by rw [grantCount_of_device hd]; exact h4)
    · rw [noteAccepted_of_none hs (not_exists.mp hr)]; exact h

theorem grantsSound_clearCounters (ls : List LaneId) (h : s.grantsSound) : (clearCounters ls s).grantsSound := by
  rw [clearCounters_eq]; exact h

/-- No spout waits among spouts that have been reset. -/
theorem grantsSound_of_neither (hc : isChain s.chain = true) (h1 : 1 ≤ s.grantCount) (h4 : s.grantCount ≤ 4)
    (hn : ∀ i, (s.spout i).place = .neither) : s.grantsSound :=
  ⟨hc, h1, h4, fun ⟨i, hi⟩ => by rw [hn i] at hi; cases hi⟩

theorem grantsSound_passToPlant (run : Run) (h : s.grantsSound) : (passToPlant run s).grantsSound := by
  unfold passToPlant; split <;> exact h

theorem grantsSound_passToField (run : Run) (h : s.grantsSound) : (passToField run s).grantsSound := by
  unfold passToField; split <;> exact h

theorem restartNow_spout (s : State) (i : SpoutId) : (restartNow s).spout i = (s.spout i).restart :=
  PerSpout.get_map _ _ i

theorem powerOn_spout (s : State) (i : SpoutId) : (powerOn s).spout i = Spout.reset := PerSpout.get_all _ i

theorem grantsSound_endPlantFrame (h : s.grantsSound) : (endPlantFrame s).grantsSound := by
  unfold endPlantFrame
  split
  · exact grantsSound_of_neither h.1 h.2.1 h.2.2.1 fun i => by rw [restartNow_spout]; rfl
  · exact h
  · exact h

theorem grantsSound_acts : Acts State.grantsSound where
  toSpoutMoves := grantsSound_moves
  silenceK _ _ _ h := h
  grantLower _ _ h1 hle h := ⟨h.1, h1, hle.trans h.2.2.1, fun hw => hle.trans (h.2.2.2 hw)⟩
  grantRaise _ _ h4 hlt h := grantsSound_grantDecision h.1 (by dsimp only; omega) h4
  address _ _ _ h := h
  clearCounters _ ls h := grantsSound_clearCounters ls h
  window _ _ _ _ _ h := h
  cursor _ _ _ _ _ h := h
  closeWindow _ h := h
  mapLane _ _ _ _ _ _ _ h := h
  chain _ _ hc h := ⟨hc, h.2⟩
  join _ _ o _ h := grantsSound_upd (Spout.join_place o).1 h

theorem grantsSound_carries : Carries State.grantsSound State.grantsSound where
  toSpoutMoves := grantsSound_moves
  lane _ _ _ _ h := h
  framing _ h := h
  toPlant _ run h := grantsSound_passToPlant run h
  silent _ h := h
  silenceMark _ _ h := h
  acts := grantsSound_acts
  taken _ _ _ h := h
  replied u _ _ h := grantsSound_noteAccepted (s := u) h
  restarting u _ _ _ _ h := grantsSound_noteAccepted (s := { u with restartPending := true }) h
  crc _ h := h
  requestOverrun _ h := h
  toField _ run h := grantsSound_passToField run h
  servePlant _ h := servePlant_rule h (fun _ _ _ _ => h) (fun _ _ _ _ => h) fun _ _ _ _ _ _ _ hf => grantsSound_upd (hf _).1 h
  sendField _ _ _ _ h := h
  freeField _ h := h
  endPlant _ h := grantsSound_endPlantFrame h
  unmapLane _ _ h := h
  powerOn u _ := grantsSound_of_neither (s := powerOn u) rfl (show 1 ≤ 2 by decide) (show 2 ≤ 4 by decide)
    fun i => by rw [powerOn_spout]; rfl

end Sys2Proof.Machine

namespace Sys2Proof.Settled

open Sys2Proof.Machine

/-- Settles O7: every change of a spout's record keeps its place and its pressure wait with its state, and every change of
the device that lets a spout wait or frees a place ends in a grant decision. -/
theorem airKept : Obligations.AirKept :=
  ⟨fun _ _ h he => step_keeps (P := fun _ p => p.airSound) (fun u => (loads_airSound u).keeps) h he,
    fun _ _ h he => step_carries grantsSound_carries id (fun _ h => h) h he⟩

end Sys2Proof.Settled
end

section
/-! PROOFS. The parameters stay in their ranges (R180), the demands of a spout with a shut gate are 0 and the sent demand of one
with an open gate lies between the minimum opening and 1000 (R98 to R105), and the settled statement about both. -/

set_option Elab.async false

namespace Sys2Proof.Machine

/-! ### The parameters -/

theorem clamp_mem {lo hi : Nat} (h : lo ≤ hi) (n : Nat) : lo ≤ clamp lo hi n ∧ clamp lo hi n ≤ hi := by
  rw [clamp_eq _ _ _ h]; omega

theorem clamp_clamp {lo hi : Nat} (h : lo ≤ hi) (n : Nat) : clamp lo hi (clamp lo hi n) = clamp lo hi n := by
  simp only [clamp_eq _ _ _ h]; omega

theorem SpoutParam.limit_limit (q : SpoutParam) (v : Nat) : q.limit (q.limit v) = q.limit v := by
  cases q
  case floodLimit =>
    show clampFloodLimit (clampFloodLimit v) = clampFloodLimit v
    unfold clampFloodLimit
    have := clamp_mem (show 1000 ≤ 20000 by omega) v
    have := clamp_clamp (show 1000 ≤ 20000 by omega) v
    split <;> grind
  all_goals exact clamp_clamp (by omega) v

theorem cadence_code_le (c : Cadence) : c.code ≤ 2 := by cases c <;> decide

namespace Spout

variable {p q : Spout}

theorem tau_le (h : p.paramsSound) : p.ctl.tau ≤ 4000 :=
  (show clamp 0 4000 p.ctl.tau = p.ctl.tau from h .tau).symm.le.trans (clamp_mem (by omega) _).2

theorem minOpening_le (h : p.paramsSound) : p.par.minOpening ≤ 300 :=
  (show clamp 0 300 p.par.minOpening = p.par.minOpening from h .minOpening).symm.le.trans (clamp_mem (by omega) _).2

theorem fineOpening_le (h : p.paramsSound) : p.par.fineOpening ≤ 600 :=
  (show clamp 50 600 p.par.fineOpening = p.par.fineOpening from h .fineOpening).symm.le.trans (clamp_mem (by omega) _).2

/-- R180: every parameter but the zero mode stands in the record of parameters, or is tau. -/
theorem value_congr {r : SpoutParam} (hr : r ≠ .zeroMode) (hpar : q.par = p.par) (htau : q.ctl.tau = p.ctl.tau) :
    r.value q = r.value p := by
  cases r
  case zeroMode => exact absurd rfl hr
  case tau => exact htau
  all_goals simp only [SpoutParam.value, hpar]

theorem paramsSound_of (h : ∀ r : SpoutParam, r ≠ .zeroMode → r.limit (r.value p) = r.value p) : p.paramsSound := by
  intro r
  by_cases hr : r = .zeroMode
  · subst hr
    have := cadence_code_le p.zero.cadence
    show clamp 0 2 p.zero.cadence.code = p.zero.cadence.code
    rw [clamp_eq _ _ _ (by omega)]
    omega
  · exact h r hr

theorem paramsSound_congr (h : p.paramsSound) (hpar : q.par = p.par := by rfl) (htau : q.ctl.tau = p.ctl.tau := by rfl) :
    q.paramsSound :=
  paramsSound_of fun r hr => by rw [value_congr hr hpar htau]; exact h r

theorem paramsSound_tau {v : Nat} (h : p.paramsSound) (hv : v ≤ 4000) (hpar : q.par = p.par) (htau : q.ctl.tau = v) :
    q.paramsSound := by
  refine paramsSound_of fun r hr => ?_
  by_cases ht : r = .tau
  · subst ht
    show clamp 0 4000 q.ctl.tau = q.ctl.tau
    rw [htau, clamp_eq _ _ _ (by omega)]
    omega
  · have e : r.value q = r.value p := by
      cases r
      case zeroMode => exact absurd rfl hr
      case tau => exact absurd rfl ht
      all_goals simp only [SpoutParam.value, hpar]
    rw [e]
    exact h r

theorem tau_recorded_le (path : RecordPath) (h : p.paramsSound) : path.tau p ≤ 4000 := by
  have ht := tau_le h
  cases path with
  | tail timedOut =>
    show p.tauAfterTail _ timedOut ≤ 4000
    unfold tauAfterTail
    split
    · exact (clamp_mem (by omega) _).2
    · exact ht
  | aborted => exact ht
  | faulted => exact ht

theorem examineZeroing_par_tau : p.examineZeroing.par = p.par ∧ p.examineZeroing.ctl.tau = p.ctl.tau :=
  examineZeroing_rule (P := fun q => q.par = p.par ∧ q.ctl.tau = p.ctl.tau) ⟨rfl, rfl⟩ fun _ _ _ => ⟨rfl, rfl⟩

theorem setCadence_par_tau (c : Cadence) : (p.setCadence c).par = p.par ∧ (p.setCadence c).ctl.tau = p.ctl.tau := by
  unfold setCadence
  split
  · exact ⟨rfl, rfl⟩
  · rw [examineZeroing_par_tau.1, examineZeroing_par_tau.2]
    unfold dropNormalStep endStep
    repeat' split
    all_goals exact ⟨rfl, rfl⟩

/-- R180: what the act of setting a parameter leaves in it and in the others. -/
theorem value_setParam (q r : SpoutParam) (v : Nat) (hr : r ≠ .zeroMode) (p : Spout) :
    r.value (p.setParam q v) = if r = q then v else r.value p := by
  by_cases hq : q = .zeroMode
  · subst hq
    rw [if_neg hr]
    exact value_congr hr (setCadence_par_tau _).1 (setCadence_par_tau _).2
  · by_cases hm : q = .minOpening
    · subst hm
      have e : (p.setMinOpening v).par = { p.par with minOpening := v } ∧ (p.setMinOpening v).ctl.tau = p.ctl.tau := by
        unfold setMinOpening; dsimp only; split <;> exact ⟨rfl, rfl⟩
      cases r <;> simp [SpoutParam.value, setParam, e] at hr ⊢
    · cases q <;> cases r <;> simp [SpoutParam.value, setParam] at hq hm hr ⊢

theorem paramsSound_setParam (q : SpoutParam) (v : Nat) (h : p.paramsSound) : (p.setParam q (q.limit v)).paramsSound := by
  refine paramsSound_of fun r hr => ?_
  rw [value_setParam q r _ hr]
  split
  · next e => subst e; exact SpoutParam.limit_limit r v
  · exact h r

/-! ### The demands of one spout -/

/-- R98, R180: what the demands are made from lies in its ranges. -/
def ranges (p : Spout) : Prop := p.paramsSound ∧ p.ctl.ratio ≤ 1000 ∧ ∀ o ∈ p.queue, o.cap ≤ 1000

/-- R105: the ranges, and no demand. -/
def undemanding (p : Spout) : Prop := p.ranges ∧ p.ctl.gateDemand = 0 ∧ p.ctl.sentDemand = 0

theorem ranges_congr (h : p.ranges) (hpar : q.par = p.par := by rfl) (htau : q.ctl.tau = p.ctl.tau := by rfl)
    (hratio : q.ctl.ratio = p.ctl.ratio := by rfl)
    (hqueue : q.queue = p.queue := by rfl) : q.ranges :=
  ⟨paramsSound_congr h.1 hpar htau, hratio ▸ h.2.1, hqueue ▸ h.2.2⟩

theorem ranges_of_demandSound (h : p.demandSound) : p.ranges := ⟨h.2.1, h.2.2.1, h.2.2.2.1⟩

theorem demandSound_of_undemanding (h : p.undemanding) (hs : p.stepSound) (hg : p.ctl.state.gateOpen = false) :
    p.demandSound :=
  ⟨hs, h.1.1, h.1.2.1, h.1.2.2, fun _ => h.2, fun e => by rw [hg] at e; cases e⟩

theorem undemanding_of_demandSound (h : p.demandSound) (hg : p.ctl.state.gateOpen = false) : p.undemanding :=
  ⟨ranges_of_demandSound h, h.2.2.2.2.1 hg⟩

/-- The demands of a spout in COARSE or FINE. -/
theorem demandSound_of_open (hr : p.ranges) (hs : p.stepSound) (hg : p.ctl.state.gateOpen = true)
    (hdemand : p.ctl.gateDemand ≤ 1000) (hmin : p.par.minOpening ≤ p.ctl.sentDemand) (hsent : p.ctl.sentDemand ≤ 1000) :
    p.demandSound :=
  ⟨hs, hr.1, hr.2.1, hr.2.2, fun e => (by rw [hg] at e; cases e), fun _ => ⟨hdemand, hmin, hsent⟩⟩

theorem sentDemand_le (h : p.demandSound) : p.ctl.sentDemand ≤ 1000 := by
  obtain ⟨-, -, -, -, hshut, hopen⟩ := h
  cases hg : p.ctl.state.gateOpen with
  | true => exact (hopen hg).2.2
  | false => rw [(hshut hg).2]; omega

/-- R101: the aim lies in 0 to 1000‰. -/
theorem aim_le (h : p.ranges) : p.aim ≤ 1000 := by
  obtain ⟨hpar, hratio, hcaps⟩ := h
  have hfine := fineOpening_le hpar
  unfold aim
  split
  · refine Nat.div_le_of_le_mul (Nat.mul_le_mul ?_ hratio)
    split
    · next o rest e => exact hcaps o (by rw [e]; exact List.mem_cons_self)
    · omega
  · omega
  all_goals omega

theorem rampToward_le {step aim sent : Nat} (ha : aim ≤ 1000) (hs : sent ≤ 1000) : rampToward step aim sent ≤ 1000 := by
  unfold rampToward; split <;> omega

theorem demandSound_demandUpdate (hr : p.ranges) (hs : p.stepSound) (hg : p.ctl.state.gateOpen = true)
    (hsent : p.ctl.sentDemand ≤ 1000) : p.demandUpdate.demandSound := by
  have haim := aim_le hr
  have hmin := minOpening_le hr.1
  have hramp := rampToward_le (step := p.par.rampStep) haim hsent
  refine demandSound_of_open (ranges_congr hr) hs hg haim (le_max_right ..) ?_
  simp only [demandUpdate]
  omega

theorem undemanding_shutGate (h : p.demandSound) : p.shutGate.undemanding :=
  shutGate_rule (fun _ => ⟨ranges_congr (ranges_of_demandSound h), rfl, rfl⟩)
    fun hg => undemanding_of_demandSound h hg

theorem undemanding_congr (h : p.undemanding) (hpar : q.par = p.par := by rfl) (htau : q.ctl.tau = p.ctl.tau := by rfl)
    (hratio : q.ctl.ratio = p.ctl.ratio := by rfl) (hqueue : q.queue = p.queue := by rfl)
    (hdemand : q.ctl.gateDemand = p.ctl.gateDemand := by rfl)
    (hsent : q.ctl.sentDemand = p.ctl.sentDemand := by rfl) : q.undemanding :=
  ⟨ranges_congr h.1 hpar htau hratio hqueue, hdemand ▸ h.2.1, hsent ▸ h.2.2⟩

theorem undemanding_giveUpAir (h : p.undemanding) : p.giveUpAir.undemanding := by
  unfold giveUpAir
  split
  · exact h
  · exact undemanding_congr h
  · exact undemanding_congr h

theorem caps_of_caps {queue : List Order} (hc : ∀ o ∈ queue, ∃ o' ∈ p.queue, o'.cap = o.cap) (h : ∀ o ∈ p.queue, o.cap ≤ 1000) :
    ∀ o ∈ queue, o.cap ≤ 1000 := by
  intro o ho
  obtain ⟨o', ho', e⟩ := hc o ho
  exact e ▸ h o' ho'

/-- R98 reads of the zero tracker only whether a step is in progress. -/
theorem demandSound_congr (h : p.demandSound) (hs : p.stepSound → q.stepSound) (hpar : q.par = p.par := by rfl)
    (htau : q.ctl.tau = p.ctl.tau := by rfl) (hratio : q.ctl.ratio = p.ctl.ratio := by rfl) (hqueue : q.queue = p.queue := by rfl)
    (hstate : q.ctl.state = p.ctl.state := by rfl) (hdemand : q.ctl.gateDemand = p.ctl.gateDemand := by rfl)
    (hsent : q.ctl.sentDemand = p.ctl.sentDemand := by rfl) : q.demandSound := by
  have hr := ranges_congr (ranges_of_demandSound h) hpar htau hratio hqueue
  refine ⟨hs h.1, hr.1, hr.2.1, hr.2.2, ?_, ?_⟩
  · rw [hstate, hdemand, hsent]; exact h.2.2.2.2.1
  · rw [hstate, hdemand, hsent, hpar]; exact h.2.2.2.2.2

end Spout

theorem demandSound_rests : Rests Spout.demandSound Spout.undemanding where
  stepSound _ h := h.1
  marked _ _ e h := marked_of_unmarked (fun _ => rfl) e h
  toRest p st hst hstep h :=
    Spout.demandSound_of_undemanding (Spout.undemanding_congr h) (Spout.stepSound_enter hst.1 hstep) hst.2.2
  toStep p k h :=
    Spout.demandSound_of_undemanding (Spout.undemanding_congr h) (Spout.stepSound_startStep k) rfl
  atRest _ _ _ hg h := Spout.undemanding_of_demandSound h hg
  released _ _ h := Spout.undemanding_giveUpAir (Spout.undemanding_shutGate h)
  giveUp _ h := Spout.undemanding_giveUpAir h
  enter _ _ h := Spout.undemanding_congr h
  zeroWork _ _ _ _ _ h := Spout.undemanding_congr h
  parts _ _ _ _ h := Spout.undemanding_congr h
  tail _ _ _ _ _ h := Spout.undemanding_congr h
  unstuck _ h := Spout.undemanding_congr h
  close _ _ path _ h :=
    ⟨⟨Spout.paramsSound_tau h.1.1 (Spout.tau_recorded_le path h.1.1) rfl rfl, h.1.2⟩, h.2⟩
  queue _ _ _ hc h := ⟨⟨Spout.paramsSound_congr h.1.1, h.1.2.1, Spout.caps_of_caps hc h.1.2.2⟩, h.2⟩
  requeue _ _ hc h :=
    ⟨h.1, Spout.paramsSound_congr h.2.1, h.2.2.1, Spout.caps_of_caps hc h.2.2.2.1, h.2.2.2.2⟩
  reorigin p st _ hs h :=
    Spout.demandSound_congr h (fun hp => by simpa [Spout.stepSound, hs] using hp)
  proceed _ _ h := Spout.demandSound_congr h id
  opened p o rest e h := by
    refine Spout.demandSound_of_undemanding ⟨⟨Spout.paramsSound_congr h.1.1, le_refl 1000, ?_⟩, h.2⟩
      (Spout.stepSound_enter (by simp) rfl) rfl
    intro x hx
    rcases List.mem_cons.mp hx with rfl | hx
    · exact h.1.2.2 o (by rw [e]; exact List.mem_cons_self)
    · exact h.1.2.2 x (by rw [e]; exact List.mem_cons_of_mem _ hx)

theorem demandSound_readsNoZero : ReadsNoZero Spout.demandSound Spout.undemanding where
  rest _ _ h := Spout.undemanding_congr h
  run p z hz h := Spout.demandSound_congr h (fun hp => by simpa [Spout.stepSound, hz] using hp)

namespace Spout

variable {p : Spout}

theorem demandSound_takeGrant (h : p.demandSound) : p.takeGrant.demandSound := demandSound_congr h id

theorem demandSound_openGate (hst : p.ctl.state = .awaitAir) (h : p.demandSound) : p.openGate.demandSound := by
  have hstep : p.zero.step = none := stepSound_none h.1 (by simp [hst])
  have hopen : (p.ctl.resumePhase.getD .coarse).state.gateOpen = true ∧ (p.ctl.resumePhase.getD .coarse).state ≠ .zeroing := by
    cases p.ctl.resumePhase.getD .coarse <;> simp [Phase.state, SpoutState.gateOpen]
  have hs : (p.enter (p.ctl.resumePhase.getD .coarse).state).stepSound := stepSound_enter hopen.2 hstep
  refine demandSound_congr (p := ({ p.enter (p.ctl.resumePhase.getD .coarse).state with ctl := { (p.enter
    (p.ctl.resumePhase.getD .coarse).state).ctl with floodRun := 0, airLostRun := 0, pressureWait := none } } :
      Spout).demandUpdate) ?_ id
  have hsent := sentDemand_le h
  exact demandSound_demandUpdate (ranges_congr (ranges_of_demandSound h)) hs hopen.1 hsent

theorem stepSound_fine (hst : p.ctl.state = .coarse) (h : p.stepSound) : (p.enter .fine).stepSound :=
  stepSound_enter (by simp) (stepSound_none h (by simp [hst]))

theorem demandSound_pace (h : p.demandSound) : p.pace.demandSound := by
  refine pace_rule (fun _ => demandSound_congr h id) fun hg ratio hle => ?_
  have hr := ranges_of_demandSound h
  have hsent := sentDemand_le h
  exact demandSound_demandUpdate ⟨paramsSound_congr hr.1, hle.trans (max_le le_rfl hr.2.1), hr.2.2⟩ h.1 hg hsent

theorem demandSound_setMinOpening {v : Nat} (hpar : (p.setMinOpening v).paramsSound) (h : p.demandSound) :
    (p.setMinOpening v).demandSound := by
  have hv : (p.setMinOpening v).par.minOpening = v := by unfold setMinOpening; dsimp only; split <;> rfl
  have hmin := minOpening_le hpar
  rw [hv] at hmin
  obtain ⟨hs, -, hratio, hcaps, hshut, hopen⟩ := h
  unfold setMinOpening at hpar ⊢
  dsimp only at hpar ⊢
  split at hpar
  · next hc =>
    rw [if_pos hc]
    exact demandSound_of_open ⟨hpar, hratio, hcaps⟩ hs hc.1 (hopen hc.1).1 (le_refl v) (hmin.trans (by omega))
  · next hc =>
    rw [if_neg hc]
    refine ⟨hs, hpar, hratio, hcaps, hshut, fun hg => ⟨(hopen hg).1, ?_, (hopen hg).2.2⟩⟩
    have : ¬ p.ctl.sentDemand < v := fun hlt => hc ⟨hg, hlt⟩
    simp only
    omega

theorem demandSound_setParam (q : SpoutParam) (v : Nat) (h : p.demandSound) : (p.setParam q (q.limit v)).demandSound := by
  have hpar := paramsSound_setParam q v h.2.1
  obtain ⟨hs, hp, hratio, hcaps, hdemand⟩ := h
  cases q
  case minOpening => exact demandSound_setMinOpening hpar ⟨hs, hp, hratio, hcaps, hdemand⟩
  case zeroMode => exact demandSound_readsNoZero.setCadence demandSound_rests _ ⟨hs, hp, hratio, hcaps, hdemand⟩
  all_goals exact ⟨hs, hpar, hratio, hcaps, hdemand⟩

theorem demandSound_restart (h : p.demandSound) : p.restart.demandSound := by
  have hr := ranges_of_demandSound h
  refine demandSound_of_undemanding ⟨⟨paramsSound_congr hr.1, hr.2.1, ?_⟩, rfl, rfl⟩ ?_ rfl
  · intro o ho
    cases ho
  · simp [stepSound, restart, ZeroTracker.restart, ZeroTracker.reset, Control.restart, Control.reset]

theorem paramsSound_reset : reset.paramsSound := by
  intro q
  cases q <;> rfl

theorem demandSound_reset : reset.demandSound := by
  refine demandSound_of_undemanding ⟨⟨paramsSound_reset, le_refl 1000, ?_⟩, rfl, rfl⟩ ?_ rfl
  · intro o ho
    cases ho
  · simp [stepSound, reset, ZeroTracker.reset, Control.reset]

end Spout

theorem loads_demandSound (s : State) : Loads s (fun _ p => p.demandSound) fun _ p => p.undemanding where
  rests _ := demandSound_rests
  zeroMoves _ := demandSound_readsNoZero.zeroMoves demandSound_rests
  takeGrant _ _ _ h := Spout.demandSound_takeGrant h
  openGate _ _ hst _ h := Spout.demandSound_openGate hst h
  enterAwait _ p hst h :=
    have hstep : p.zero.step = none := demandSound_rests.step_none (by simp [hst]) h
    Spout.demandSound_of_undemanding (Spout.undemanding_congr (Spout.undemanding_of_demandSound h (by rw [hst]; rfl)))
      (Spout.stepSound_enter (p := p) (st := .awaitAir) (by simp) hstep) rfl
  resumeWaits i hst h :=
    have hl := demandSound_rests.leaveHeld hst h
    Spout.demandSound_of_undemanding (Spout.undemanding_congr hl.2)
      (Spout.stepSound_enter (p := s.spout i) (st := .awaitAir) (by simp) hl.1) rfl
  acceptForce _ _ _ h := Spout.demandSound_congr h id
  countMissed _ _ h := Spout.demandSound_congr h id
  starveChannel _ _ h := Spout.demandSound_congr h id
  workGood _ p raw hs _ h := by
    unfold Spout.workGood Spout.watchRange
    dsimp only
    repeat' split
    all_goals exact Spout.demandSound_congr h id
  workFill _ _ h := Spout.demandSound_congr h id
  countDuration _ p h := by
    unfold Spout.countDuration
    split
    · exact Spout.demandSound_congr h id
    · exact h
  enterFineBand _ p hst h :=
    have hfine := Spout.fineOpening_le h.2.1
    have hsent := h.2.2.2.2.2 (by rw [hst]; rfl)
    Spout.demandSound_of_open (Spout.ranges_congr (Spout.ranges_of_demandSound h)) (Spout.stepSound_fine hst h.1) rfl
      (hfine.trans (by omega)) hsent.2.1 hsent.2.2
  floodDrop _ p hst h :=
    have hfine := Spout.fineOpening_le h.2.1
    have hmin := Spout.minOpening_le h.2.1
    Spout.demandSound_of_open (Spout.ranges_congr (Spout.ranges_of_demandSound h)) (Spout.stepSound_fine (p := p) hst h.1) rfl
      (hfine.trans (by omega)) (le_max_right ..) (max_le (hfine.trans (by omega)) (hmin.trans (by omega)))
  tickFlood _ _ _ _ _ h := Spout.demandSound_congr h id
  countPacing _ p h := by
    unfold Spout.countPacing
    split
    · exact Spout.demandSound_pace h
    · exact Spout.demandSound_congr h id
  pace _ _ h := Spout.demandSound_pace h
  tickAirLost _ _ _ _ _ h := Spout.demandSound_congr h id
  tickPressure _ _ _ _ h := Spout.demandSound_congr h id
  tickStuck _ _ _ _ h := Spout.demandSound_congr h id
  tickTail _ _ _ _ _ h := Spout.demandSound_congr h id
  countReport _ p h := by unfold Spout.countReport; split <;> exact Spout.demandSound_congr h id
  reportExpires _ _ h := Spout.demandSound_congr h id
  setParam _ q v _ h := Spout.demandSound_setParam q v h
  written _ _ _ _ _ h := Spout.demandSound_congr h id
  failSwitch _ _ h := Spout.demandSound_congr h id
  deferSwitch _ _ _ h := Spout.demandSound_congr h id
  switchNow _ _ _ h := Spout.demandSound_congr h id
  mapForce _ _ h := Spout.demandSound_congr h id
  woken _ _ hst _ _ h := Spout.undemanding_of_demandSound h (by rw [hst]; rfl)
  append _ p ps h := by
    refine ⟨h.1, Spout.paramsSound_congr h.2.1, h.2.2.1, fun o ho => ?_, h.2.2.2.2⟩
    rcases List.mem_append.mp ho with ho | ho
    · exact h.2.2.2.1 o ho
    · rw [List.mem_singleton.mp ho]
      exact (clamp_mem (by omega) _).2
  restart _ _ h := Spout.demandSound_restart h
  reset _ := Spout.demandSound_reset

end Sys2Proof.Machine

namespace Sys2Proof.Settled

open Sys2Proof.Machine

/-- Settles O8: outside COARSE and FINE the demands rest at 0, and every demand update ends in the ramp and the floor. -/
theorem demandKept : Obligations.DemandKept :=
  fun _ _ h he => step_keeps (P := fun _ p => p.demandSound) (fun u => (loads_demandSound u).keeps) h he

end Sys2Proof.Settled
end

section
/-! PROOFS. The banks of a curve stand in one of their two arrangements (R22, R24), a spout outside PARKED has a valid curve
(R58), the curve window's range lies within the points (R22, R27, R29), and the settled statement about them. -/

set_option Elab.async false

namespace Sys2Proof.Machine

/-! ### The banks -/

namespace CurveStore

variable {c : CurveStore} {b d : Bank} {st : BankStatus}

theorem status_setStatus : (c.setStatus b st).status d = if d = b then st else c.status d := by
  cases b <;> cases d <;> rfl

theorem points_setStatus : (c.setStatus b st).points d = c.points d := by cases b <;> cases d <;> rfl
theorem selected_setStatus : (c.setStatus b st).selected = c.selected := by cases b <;> rfl
theorem valid_setStatus : (c.setStatus b st).valid = c.valid := by cases b <;> rfl

theorem valid_written {v : Vector Nat 17} : (c.written b v).valid = c.valid := by cases b <;> rfl

theorem points_setPoints {v : Vector Nat 17} : (c.setPoints b v).points d = if d = b then v else c.points d := by
  cases b <;> cases d <;> rfl

theorem standby_ne : c.standby ≠ c.selected := by unfold standby; cases c.selected <;> simp [Bank.other]
theorem eq_standby_of_ne (h : b ≠ c.selected) : b = c.standby := by
  unfold standby; cases hs : c.selected <;> cases b <;> simp_all [Bank.other]

/-- R22, R24: the statement about the banks of a curve, whatever the spout's state. -/
def sound (c : CurveStore) : Prop :=
  (c.valid = false → c.statusA = .standbyUnchecked ∧ c.statusB = .standbyUnchecked ∧ c.selected = .a) ∧
    (c.valid = true → c.status c.selected = .active ∧ c.status c.standby ≠ .active) ∧
    (∀ b : Bank, c.status b ≠ .standbyUnchecked → failingPoint (c.points b) = none) ∧
    ∀ (b : Bank) (k : Nat), (c.points b).getD k 0 ≤ 20000

theorem unchecked_of_invalid (h : c.sound) (hv : c.valid = false) : c.status b = .standbyUnchecked := by
  obtain ⟨ha, hb, -⟩ := h.1 hv
  cases b
  · exact ha
  · exact hb

theorem sound_written {v : Vector Nat 17} (hb : c.bankLocked b = false) (hv : ∀ k, v.getD k 0 ≤ 20000) (h : c.sound) :
    (c.written b v).sound := by
  obtain ⟨hinvalid, hvalid, htested, hpoints⟩ := h
  have hsel : b ≠ c.selected := by simpa [bankLocked] using (Bool.or_eq_false_iff.mp hb).1
  have hstatus : ∀ d, (c.written b v).status d = if d = b then .standbyUnchecked else c.status d := fun d => by
    rw [written, status_setStatus]; cases b <;> cases d <;> rfl
  have hpts : ∀ d, (c.written b v).points d = if d = b then v else c.points d := fun d => by
    rw [written, points_setStatus, points_setPoints]
  have hselected : (c.written b v).selected = c.selected := by cases b <;> rfl
  have hstandby : (c.written b v).standby = c.standby := by rw [standby, hselected]; rfl
  refine ⟨fun e => ?_, fun e => ?_, fun d hd => ?_, fun d k => ?_⟩
  · obtain ⟨ha, hbk, hs⟩ := hinvalid (valid_written ▸ e)
    cases b
    · exact ⟨rfl, hbk, hs⟩
    · exact ⟨ha, rfl, hs⟩
  · obtain ⟨hact, hnot⟩ := hvalid (valid_written ▸ e)
    rw [hstandby, hselected, hstatus, hstatus, if_neg (Ne.symm hsel), if_pos (eq_standby_of_ne hsel).symm]
    exact ⟨hact, by simp⟩
  · rw [hstatus] at hd
    rw [hpts]
    split at hd
    · exact absurd rfl hd
    · next hne => rw [if_neg hne]; exact htested d hd
  · rw [hpts]
    split
    · exact hv k
    · exact hpoints d k

/-- A standby status other than ACTIVE, of a bank that passes the test where the status asks for it. -/
theorem sound_setStandby (hst : st ≠ .active) (hinvalid : c.valid = false → st = .standbyUnchecked)
    (htest : st ≠ .standbyUnchecked → failingPoint (c.points c.standby) = none) (h : c.sound) :
    (c.setStatus c.standby st).sound := by
  have hinv := fun b => unchecked_of_invalid (b := b) h
  obtain ⟨hstore, hvalid, htested, hpoints⟩ := h
  have hstandby : (c.setStatus c.standby st).standby = c.standby := by rw [standby, selected_setStatus]; rfl
  refine ⟨fun e => ?_, fun e => ?_, fun d hd => ?_, fun d k => ?_⟩
  · rw [valid_setStatus] at e
    have hall : ∀ d, (c.setStatus c.standby st).status d = .standbyUnchecked := fun d => by
      rw [status_setStatus]
      split
      · exact hinvalid e
      · exact hinv d e
    exact ⟨hall .a, hall .b, selected_setStatus.trans (hstore e).2.2⟩
  · rw [valid_setStatus] at e
    rw [hstandby, selected_setStatus, status_setStatus, status_setStatus, if_pos rfl, if_neg (Ne.symm standby_ne)]
    exact ⟨(hvalid e).1, hst⟩
  · rw [status_setStatus] at hd
    rw [points_setStatus]
    split at hd
    · next e => subst e; exact htest hd
    · exact htested d hd
  · rw [points_setStatus]
    exact hpoints d k

theorem sound_exchange (htest : failingPoint (c.points c.standby) = none) (h : c.sound) : c.exchange.sound := by
  obtain ⟨-, hvalid, htested, hpoints⟩ := h
  have hpts : ∀ d, c.exchange.points d = c.points d := fun d => by
    have e : c.exchange.points d = ((c.setStatus c.standby .active).setStatus c.selected
      (if c.valid then .standbyValid else .standbyUnchecked)).points d := by cases d <;> rfl
    rw [e, points_setStatus, points_setStatus]
  have hstatus : ∀ d, c.exchange.status d =
      if d = c.selected then (if c.valid then .standbyValid else .standbyUnchecked)
      else if d = c.standby then .active else c.status d := fun d => by
    have e : c.exchange.status d = ((c.setStatus c.standby .active).setStatus c.selected
      (if c.valid then .standbyValid else .standbyUnchecked)).status d := by cases d <;> rfl
    rw [e, status_setStatus, status_setStatus]
  have hstandby : c.exchange.standby = c.selected := by
    show c.standby.other = c.selected
    unfold standby; cases c.selected <;> rfl
  refine ⟨fun e => (by cases e), fun _ => ?_, fun d hd => ?_, fun d k => ?_⟩
  · rw [hstandby, hstatus, hstatus, if_pos rfl]
    constructor
    · show (if c.standby = c.selected then _ else if c.standby = c.standby then BankStatus.active else _) = _
      rw [if_neg standby_ne, if_pos rfl]
    · split <;> simp
  · rw [hpts]
    by_cases hs : d = c.selected
    · subst hs
      rw [hstatus, if_pos rfl] at hd
      have hv : c.valid = true := by
        by_contra hv
        simp [hv] at hd
      exact htested _ (by rw [(hvalid hv).1]; simp)
    · rw [eq_standby_of_ne hs]
      exact htest
  · rw [hpts]
    exact hpoints d k

theorem standbyTested (h : c.sound) (hp : c.exchangePending = true) : failingPoint (c.points c.standby) = none := by
  have e : c.status c.standby = .pending := by simpa [exchangePending] using hp
  exact h.2.2.1 _ (by rw [e]; simp)

theorem sound_restart (h : c.sound) : c.restart.sound := by
  have hstatus : ∀ d, c.restart.status d = (c.status d).restart := fun d => by cases d <;> rfl
  have hpts : ∀ d, c.restart.points d = c.points d := fun d => by cases d <;> rfl
  obtain ⟨hinvalid, hvalid, htested, hpoints⟩ := h
  refine ⟨fun e => ?_, fun e => ?_, fun d hd => ?_, fun d k => by rw [hpts]; exact hpoints d k⟩
  · obtain ⟨ha, hb, hs⟩ := hinvalid e
    exact ⟨by show c.statusA.restart = _; rw [ha]; rfl, by show c.statusB.restart = _; rw [hb]; rfl, hs⟩
  · obtain ⟨hact, hnot⟩ := hvalid e
    show c.restart.status c.selected = .active ∧ c.restart.status c.standby ≠ .active
    rw [hstatus, hstatus, hact]
    refine ⟨rfl, ?_⟩
    revert hnot
    cases c.status c.standby <;> simp [BankStatus.restart]
  · rw [hpts]
    refine htested d fun e => hd ?_
    rw [hstatus, e]
    rfl

theorem sound_reset : CurveStore.reset.sound := by
  have hzero : ∀ b, CurveStore.reset.points b = Vector.replicate 17 0 := fun b => by cases b <;> rfl
  have hunchecked : ∀ b, CurveStore.reset.status b = .standbyUnchecked := fun b => by cases b <;> rfl
  refine ⟨fun _ => ⟨rfl, rfl, rfl⟩, fun e => (by cases e), fun b hb => absurd (hunchecked b) hb, fun b k => ?_⟩
  rw [hzero]
  by_cases hk : k < 17
  · simp [Vector.getD, hk]
  · simp [Vector.getD, hk]

end CurveStore

/-! ### The curve of one spout -/

namespace Spout

variable {p q : Spout}

/-- R58: the curve is valid, and sound. -/
def curveValid (p : Spout) : Prop := p.curve.valid = true ∧ p.curve.sound

theorem curveSound_of_valid (hs : p.stepSound) (h : p.curveValid) : p.curveSound := ⟨hs, fun _ => h.1, h.2⟩

theorem curveValid_of_sound (hst : p.ctl.state ≠ .parked) (h : p.curveSound) : p.curveValid := ⟨h.2.1 hst, h.2.2⟩

theorem curveValid_giveUpAir (h : p.curveValid) : p.giveUpAir.curveValid := by unfold giveUpAir; split <;> exact h

theorem curveSound_shutGate (h : p.curveSound) : p.shutGate.curveSound := shutGate_rule (fun _ => h) fun _ => h

theorem curveValid_closeCompartment (c : OpenCompartment) (path : RecordPath) (h : p.curveValid) :
    (p.closeCompartment c path).curveValid := by
  have hcurve : (p.closeCompartment c path).curve = if p.curve.exchangePending then p.curve.exchange else p.curve := rfl
  unfold curveValid
  rw [hcurve]
  split
  · next hp => exact ⟨rfl, CurveStore.sound_exchange (CurveStore.standbyTested h.2 hp) h.2⟩
  · exact h

end Spout

theorem curveSound_rests : Rests Spout.curveSound Spout.curveValid where
  stepSound _ h := h.1
  marked _ _ e h := marked_of_unmarked (fun _ => rfl) e h
  toRest p st hst hstep h := Spout.curveSound_of_valid (Spout.stepSound_enter hst.1 hstep) h
  toStep p k h := Spout.curveSound_of_valid (Spout.stepSound_startStep k) h
  atRest _ hp _ _ h := Spout.curveValid_of_sound hp h
  released _ hp h := Spout.curveValid_giveUpAir (Spout.curveValid_of_sound (by simpa using hp) (Spout.curveSound_shutGate h))
  giveUp _ h := Spout.curveValid_giveUpAir h
  enter _ _ h := h
  zeroWork _ _ _ _ _ h := h
  parts _ _ _ _ h := h
  tail _ _ _ _ _ h := h
  unstuck _ h := h
  close p c path _ h := Spout.curveValid_closeCompartment c path h
  queue _ _ _ _ h := h
  requeue _ _ _ h := h
  reorigin p st origin hs h := by simpa [Spout.curveSound, Spout.stepSound, hs] using h
  proceed _ _ h := h
  opened p o rest _ h := Spout.curveSound_of_valid (Spout.stepSound_enter (by simp) rfl) h

theorem curveSound_readsNoZero : ReadsNoZero Spout.curveSound Spout.curveValid where
  rest _ _ h := h
  run p z hz h := by simpa [Spout.curveSound, Spout.stepSound, hz] using h

theorem loads_curveSound (s : State) : Loads s (fun _ p => p.curveSound) fun _ p => p.curveValid where
  rests _ := curveSound_rests
  zeroMoves _ := curveSound_readsNoZero.zeroMoves curveSound_rests
  takeGrant _ _ _ h := h
  openGate _ p hst _ h := by
    have hstep : p.zero.step = none := stepSound_none h.1 (by simp [hst])
    have hne : (p.ctl.resumePhase.getD .coarse).state ≠ .zeroing := by
      cases p.ctl.resumePhase.getD .coarse <;> simp [Phase.state]
    have hvalid : p.curveValid := Spout.curveValid_of_sound (by simp [hst]) h
    exact Spout.curveSound_of_valid (Spout.stepSound_enter (p := p) hne hstep) hvalid
  enterAwait _ p hst h :=
    have hstep : p.zero.step = none := stepSound_none h.1 (by simp [hst])
    have hvalid : p.curveValid := Spout.curveValid_of_sound (by simp [hst]) h
    Spout.curveSound_of_valid (Spout.stepSound_enter (p := p) (st := .awaitAir) (by simp) hstep) hvalid
  resumeWaits i hst h :=
    have hl := curveSound_rests.leaveHeld hst h
    Spout.curveSound_of_valid (Spout.stepSound_enter (p := s.spout i) (st := .awaitAir) (by simp) hl.1) hl.2
  acceptForce _ _ _ h := h
  countMissed _ _ h := h
  starveChannel _ _ h := h
  workGood _ p raw hs _ h := by
    unfold Spout.workGood Spout.watchRange
    dsimp only
    repeat' split
    all_goals exact h
  workFill _ _ h := h
  countDuration _ p h := by unfold Spout.countDuration; split <;> exact h
  enterFineBand _ p hst h :=
    have hvalid : p.curveValid := Spout.curveValid_of_sound (by simp [hst]) h
    Spout.curveSound_of_valid (Spout.stepSound_fine (p := p) hst h.1) hvalid
  floodDrop _ p hst h :=
    have hvalid : p.curveValid := Spout.curveValid_of_sound (by simp [hst]) h
    Spout.curveSound_of_valid (Spout.stepSound_fine (p := p) hst h.1) hvalid
  tickFlood _ _ _ _ _ h := h
  countPacing _ p h := by
    unfold Spout.countPacing
    split
    · exact Spout.pace_rule (fun _ => h) fun _ _ _ => h
    · exact h
  pace _ _ h := Spout.pace_rule (fun _ => h) fun _ _ _ => h
  tickAirLost _ _ _ _ _ h := h
  tickPressure _ _ _ _ h := h
  tickStuck _ _ _ _ h := h
  tickTail _ _ _ _ _ h := h
  countReport _ p h := by unfold Spout.countReport; split <;> exact h
  reportExpires _ _ h := h
  setParam i q v _ h := by
    cases q <;> try exact h
    case minOpening =>
      simp only [Spout.setParam, Spout.setMinOpening]
      split <;> exact h
    case zeroMode => exact curveSound_readsNoZero.setCadence curveSound_rests _ h
  written _ _ _ hb hv h :=
    ⟨h.1, fun hp => CurveStore.valid_written.trans (h.2.1 hp), CurveStore.sound_written hb (hv (h.2.2.2.2.2 _)) h.2.2⟩
  failSwitch _ _ h :=
    ⟨h.1, fun hp => CurveStore.valid_setStatus.trans (h.2.1 hp),
      CurveStore.sound_setStandby (by simp) (fun _ => rfl) (fun e => absurd rfl e) h.2.2⟩
  deferSwitch i htest hopen h := by
    have hvalid : (s.spout i).curve.valid = true := h.2.1 fun e => by rw [e] at hopen; cases hopen
    exact ⟨h.1, fun _ => CurveStore.valid_setStatus.trans hvalid, CurveStore.sound_setStandby (by simp) (fun e => by rw [hvalid] at e; cases e)
      (fun _ => htest) h.2.2⟩
  switchNow _ htest _ h := ⟨h.1, fun _ => rfl, CurveStore.sound_exchange htest h.2.2⟩
  mapForce _ _ h := h
  woken i p _ hc hconf h := by
    have hvalid : (s.spout i).curve.valid = true := by
      simp only [State.configured, Bool.and_eq_true] at hconf
      exact hconf.1.1.1
    exact ⟨by rw [hc]; exact hvalid, h.2.2⟩
  append _ _ _ h := h
  restart _ p h :=
    ⟨by simp [Spout.stepSound, Spout.restart, ZeroTracker.restart, ZeroTracker.reset, Control.restart, Control.reset],
      fun e => absurd rfl e, CurveStore.sound_restart h.2.2⟩
  reset _ :=
    ⟨by simp [Spout.stepSound, Spout.reset, ZeroTracker.reset, Control.reset], fun e => absurd rfl e, CurveStore.sound_reset⟩

/-! ### The curve window -/

theorem windowSound_of_device {u v : State} (hd : v.device = u.device) (h : u.windowSound) : v.windowSound := by
  show v.device.windowSound
  rw [hd]
  exact h

theorem windowSound_noteAccepted {u : State} (h : u.windowSound) : (noteAccepted u).windowSound :=
  windowSound_of_device (noteAccepted_device u) h

theorem windowSound_moves : SpoutMoves State.windowSound := SpoutMoves.of_device fun _ _ => windowSound_of_device

theorem windowSound_acts : Acts State.windowSound where
  toSpoutMoves := windowSound_moves
  silenceK _ _ _ h := h
  grantLower _ _ _ _ h := h
  grantRaise _ _ _ _ h := windowSound_of_device (grantDecision_device _) h
  address _ _ _ h := h
  clearCounters u ls h := by rw [clearCounters_eq]; exact h
  window _ w hle h16 hc _ := ⟨hle, h16, hc.ge, by rw [hc]; exact Nat.le_succ_of_le hle⟩
  cursor _ _ _ hfrom hc h := by
    obtain ⟨hle, h16, hlo, hhi⟩ := h
    refine ⟨hle, h16, ?_, ?_⟩ <;> dsimp only <;> omega
  closeWindow _ h := h
  mapLane _ _ _ _ _ _ _ h := h
  chain _ _ _ h := h
  join _ _ _ _ h := h

theorem windowSound_carries : Carries State.windowSound State.windowSound where
  toSpoutMoves := windowSound_moves
  lane _ _ _ _ h := h
  framing _ h := h
  toPlant _ run h := by unfold passToPlant; split <;> exact h
  silent _ h := h
  silenceMark _ _ h := h
  acts := windowSound_acts
  taken _ _ _ h := h
  replied u _ _ h := windowSound_noteAccepted (u := u) h
  restarting u _ _ _ _ h := windowSound_noteAccepted (u := { u with restartPending := true }) h
  crc _ h := h
  requestOverrun _ h := h
  toField _ run h := by unfold passToField; split <;> exact h
  servePlant _ h := servePlant_rule h (fun _ _ _ _ => h) (fun _ _ _ _ => h) fun _ _ _ _ _ _ _ _ => h
  sendField _ _ _ _ h := h
  freeField _ h := h
  endPlant _ h := by unfold endPlantFrame; split <;> exact h
  unmapLane _ _ h := h
  powerOn _ _ := ⟨Nat.zero_le _, Nat.zero_le _, Nat.zero_le _, Nat.zero_le _⟩

end Sys2Proof.Machine

namespace Sys2Proof.Settled

open Sys2Proof.Machine

/-- Settles O9: only a bank that is neither selected nor pending is written, only a bank that passes the test is exchanged or
left pending, and the window's range and cursor are checked where they are set. -/
theorem curveKept : Obligations.CurveKept :=
  ⟨fun _ _ h he => step_keeps (P := fun _ p => p.curveSound) (fun u => (loads_curveSound u).keeps) h he,
    fun _ _ h he => step_carries windowSound_carries id (fun _ h => h) h he⟩

end Sys2Proof.Settled
end

section
/-! PROOFS. What the channel and the results ring of a spout keep (R1, R16, R18, R19, R91, R130): one law for both, as few of
the changes of a spout's record write either; and the settled statement about the metering quantities. -/

set_option Elab.async false

namespace Sys2Proof.Machine

/-! ### Channel and ring -/

/-- A property of the channel, the results ring and the number of the next result. -/
def Spout.logs (F : Channel → List Result → Byte → Prop) (p : Spout) : Prop := F p.chan p.ring p.resultNumber

/-- What writes the channel and the ring keeps the property. -/
structure Logs (F : Channel → List Result → Byte → Prop) : Prop where
  recorded : ∀ c ring n (r : Result), r.number = n → F c ring n → F c (placeResult ring r) (n + 1)
  sequence : ∀ c ring n seq, F c ring n → F { c with lastSeq := seq } ring n
  run : ∀ c ring n run, run ≤ 255 → F c ring n → F { c with missingRun := run } ring n
  marks : ∀ c ring n range fill sat, F c ring n → F { c with overrange := range, fillMark := fill, satMark := sat } ring n
  emptied : ∀ c ring n, F c ring n → F { c with acc := 0, massG := 0 } ring n
  lastGood : ∀ c ring n u, u ≤ 20000 → F c ring n → F { c with lastGood := u } ring n
  entered : ∀ c ring n u, u ≤ 20000 ∨ u = c.lastGood → F c ring n → F (c.enterWindow u) ring n
  integrated : ∀ c ring n u, F c ring n → F (c.integrate u) ring n
  mapped : ∀ c ring n, F c ring n → F c.mapForce ring n
  reset : F Channel.reset [] 0

namespace Logs

variable {F : Channel → List Result → Byte → Prop} (L : Logs F) {p : Spout}

section Frames

theorem examineZeroing (h : p.logs F) : p.examineZeroing.logs F := Spout.examineZeroing_rule h fun _ _ _ => h
theorem settle (h : p.logs F) : p.settle.logs F := examineZeroing h
theorem moveOn (h : p.logs F) : p.moveOn.logs F := Spout.moveOn_rule (settle h) fun _ => settle h
theorem shutGate (h : p.logs F) : p.shutGate.logs F := Spout.shutGate_rule (fun _ => h) fun _ => h
theorem giveUpAir (h : p.logs F) : p.giveUpAir.logs F := by unfold Spout.giveUpAir; split <;> exact h
theorem released (h : p.logs F) : p.shutGate.giveUpAir.logs F := giveUpAir (shutGate h)
theorem endStep (h : p.logs F) : p.endStep.logs F := by unfold Spout.endStep; split <;> exact h
theorem abandonStep (h : p.logs F) : p.abandonStep.logs F := Spout.abandonStep_rule h fun _ _ => h
theorem pace (h : p.logs F) : p.pace.logs F := Spout.pace_rule (fun _ => h) fun _ _ _ => h
theorem markAborted (h : p.logs F) : p.markAborted.logs F := by unfold Spout.markAborted; split <;> exact h

theorem completeNormal (st : ZeroStep) (h : p.logs F) : (p.completeNormal st).logs F :=
  Spout.completeNormal_rule (fun _ => endStep (p := { p with zero := _ }) h) (fun _ => endStep (p := { p with zero := _ }) h)
    fun _ alerts => endStep (p := { p with zero := _, alerts := alerts }) h

theorem judge (now : Bool) (sum : Nat) (h : p.logs F) : (p.judge now sum).logs F :=
  Spout.judge_rule (P := fun q => q.logs F) (fun _ => h) fun _ => h

theorem setParam (q : SpoutParam) (v : Nat) (h : p.logs F) : (p.setParam q v).logs F := by
  cases q <;> try exact h
  case minOpening =>
    simp only [Spout.setParam, Spout.setMinOpening]
    split <;> exact h
  case zeroMode =>
    simp only [Spout.setParam, Spout.setCadence]
    split
    · exact h
    · apply examineZeroing
      unfold Spout.dropNormalStep
      split
      · split
        · exact endStep (p := { p with zero := _ }) h
        · exact h
      · exact h

theorem newHead (h : p.logs F) : p.newHead.logs F := by
  unfold Spout.newHead
  split
  case h_1 => exact examineZeroing (p := ({ p with zero := p.zero.unpark } : Spout).enter .ready) h
  case h_2 => exact examineZeroing (p := p.enter .ready) h
  case h_3 =>
    unfold Spout.readyWhileZeroing
    split
    · split
      · exact h
      · exact examineZeroing (p := ({ p with zero := _ } : Spout).enter .ready) h
    · exact examineZeroing (p := p.enter .ready) h
  all_goals exact h

theorem cancelHead {q : Spout} {tag : Nat} (hq : p.cancelHead tag = some q) (h : p.logs F) : q.logs F := by
  unfold Spout.cancelHead at hq
  split at hq <;> cases hq
  · exact settle (p := (p.removeOrder tag).clearProceed) h
  · exact h
  · exact h

end Frames

include L

theorem recordResult (path : RecordPath) (h : p.logs F) : (p.recordResult path).logs F :=
  Spout.recordResult_rule path (fun _ => h) fun c _ _ => L.recorded _ _ _ (p.result c path) rfl h

theorem fault (k : FaultKind) (h : p.logs F) : (p.fault k).logs F := L.recordResult (p := p.dropZeroWork) .faulted h

theorem endTail (b : Bool) (h : p.logs F) : (p.endTail b).logs F := moveOn (L.recordResult _ h)

theorem openCompartment (h : p.logs F) : p.openCompartment.logs F := by
  unfold Spout.openCompartment
  split
  · exact h
  · exact L.marks _ _ _ false false false (L.emptied _ _ _ h)

theorem meter {u : Nat} (hu : u ≤ 20000 ∨ u = p.chan.lastGood) (h : p.logs F) : (p.meter u).logs F := by
  have he := L.entered _ _ _ u hu h
  unfold Spout.logs Spout.meter
  dsimp only
  split
  · exact L.integrated _ _ _ u he
  · exact he

theorem flowOf_le (p : Spout) (raw : Nat) : p.flowOf raw ≤ 20000 := by
  unfold Spout.flowOf lowFlowCut spanTrim
  repeat' split
  all_goals omega

omit L in
/-- R12: the overrange mark is all of the channel that the watch over the range writes. -/
theorem watchRange_chan (raw : Nat) (hs : HeadStatus) (p : Spout) :
    ∃ range alerts, p.watchRange raw hs = { p with chan := { p.chan with overrange := range }, alerts := alerts } := by
  unfold Spout.watchRange
  dsimp only
  repeat' split
  · exact ⟨p.chan.overrange, p.alerts, rfl⟩
  · exact ⟨false, p.alerts, rfl⟩
  · exact ⟨p.chan.overrange, p.alerts, rfl⟩
  · exact ⟨true, _, rfl⟩

theorem workGood (raw : Nat) (hs : HeadStatus) (h : p.logs F) : (p.workGood raw hs).logs F := by
  obtain ⟨range, alerts, e⟩ := watchRange_chan raw hs p
  have hu := flowOf_le L p raw
  unfold Spout.workGood
  rw [e]
  exact L.meter (.inl hu) (L.lastGood _ _ _ _ hu (L.run _ _ _ 0 (by omega) (L.marks _ _ _ range _ _ h)))

theorem workFill (h : p.logs F) : p.workFill.logs F := by
  have hm := L.meter (.inr rfl) h
  exact L.marks _ _ _ _ _ _ hm

theorem keeps (s : State) : Keeps s fun _ p => p.logs F where
  marked _ _ _ e h := marked_of_unmarked (fun _ => rfl) e h
  takeGrant _ _ _ h := h
  openGate _ _ _ _ h := h
  held _ _ _ _ h := released h
  tailing _ _ _ _ h := released h
  fault _ _ k _ _ h := L.fault k (released h)
  backToArmed _ _ _ h := giveUpAir h
  enterAwait _ _ _ h := h
  acceptForce _ _ seq h := L.sequence _ _ _ (some seq) h
  countMissed _ p h := L.run _ _ _ _ (min_le_left _ _) h
  starveChannel _ _ h := L.run _ _ _ 0 (by omega) (L.sequence _ _ _ none h)
  workGood _ _ raw hs _ h := L.workGood raw hs h
  workFill _ _ h := L.workFill h
  countDuration _ p h := by unfold Spout.countDuration; split <;> exact h
  enterFineBand _ _ _ h := h
  floodDrop _ _ _ h := h
  tickFlood _ _ _ _ _ h := h
  countPacing _ p h := by
    unfold Spout.countPacing
    split
    · exact pace h
    · exact h
  pace _ _ h := pace h
  tickAirLost _ _ _ _ _ h := h
  tickPressure _ _ _ _ h := h
  tickStuck _ _ _ _ h := h
  countTail _ _ _ h := by
    unfold Spout.countTail
    split
    · exact L.endTail _ h
    · split
      · exact L.endTail _ h
      · exact h
  endTail _ _ b _ h := L.endTail b h
  countReport _ p h := by unfold Spout.countReport; split <;> exact h
  reportExpires _ _ h := h
  oweStep _ _ h := h
  tickDue _ _ _ _ h := h
  endRetry _ _ h := h
  tickRetry _ _ _ h := h
  examineZeroing _ _ h := examineZeroing h
  abandonStep _ _ h := abandonStep h
  takeSample _ _ _ _ _ _ _ h := h
  completeNormal _ p _ raw _ _ _ _ h := completeNormal (p := p.takeSample raw) _ h
  completeZeroNow _ p _ raw _ _ _ _ h := endStep (judge (p := p.takeSample raw) _ _ h)
  completeMakeup _ p _ raw _ _ _ _ h := endStep (p := { p.takeSample raw with zero := _ }) h
  openReady _ _ _ h := L.openCompartment h
  openZeroing _ _ _ _ _ _ h := L.openCompartment h
  setParam _ q _ _ h := setParam q _ h
  written _ _ _ _ _ h := h
  failSwitch _ _ h := h
  deferSwitch _ _ _ h := h
  switchNow _ _ _ h := h
  mapForce _ _ h := L.mapped _ _ _ h
  join i ps _ _ _ _ _ _ _ h := by
    unfold Spout.join
    dsimp only
    split
    · exact newHead (p := { s.spout i with queue := _ }) h
    · exact h
  removeOrder _ _ _ h := h
  cancelHead _ _ _ _ hq h := cancelHead hq h
  markProceed _ _ h := h
  endAborted _ _ h := moveOn (L.recordResult _ (giveUpAir (markAborted h)))
  abortLoading _ _ h := released (markAborted h)
  abortTail _ _ h := markAborted h
  abortReady i _ h := settle (p := ((s.spout i).retireHead 2).clearProceed) h
  resumeWaits _ _ h := h
  resumeArmed i _ h := giveUpAir (p := (s.spout i).leaveHeld) h
  resumeHeld i _ h := released (p := (s.spout i).leaveHeld) h
  park _ _ h := h
  unpark i _ _ h := examineZeroing (p := ({ s.spout i with zero := _ } : Spout).enter .idle) h
  clearFault i _ h := moveOn (p := { s.spout i with ctl := _ }) h
  zeroNow _ _ h := by unfold Spout.zeroNow; split <;> exact h
  restart _ _ _ := L.reset
  reset _ := L.reset

end Logs

/-! ### The metering quantities -/

/-- R1, R16, R18, R19: the metering quantities of a channel lie in their ranges and agree. -/
def Channel.sound (c : Channel) : Prop :=
  c.window.length = 8 ∧ (∀ u ∈ c.window, u ≤ 20000) ∧ c.lastGood ≤ 20000 ∧ c.filtered = c.window.sum / 8 ∧
    c.acc ≤ 4294967295 ∧ c.massG = c.acc / 40 ∧ c.missingRun ≤ 255

namespace Channel

variable {c : Channel}

theorem sound_enterWindow {u : Nat} (hu : u ≤ 20000) (h : c.sound) : (c.enterWindow u).sound := by
  obtain ⟨hlen, hflows, hgood, -, hacc⟩ := h
  refine ⟨by simp [enterWindow, hlen], fun v hv => ?_, hgood, rfl, hacc⟩
  rcases List.mem_append.mp hv with hv | hv
  · exact hflows v (List.mem_of_mem_drop hv)
  · rw [List.mem_singleton.mp hv]; exact hu

theorem sound_integrate (u : Nat) (h : c.sound) : (c.integrate u).sound := by
  obtain ⟨hlen, hflows, hgood, hmean, hacc, hmass, hrun⟩ := h
  unfold integrate
  split
  · exact ⟨hlen, hflows, hgood, hmean, le_refl 4294967295, rfl, hrun⟩
  · exact ⟨hlen, hflows, hgood, hmean, by dsimp only; omega, rfl, hrun⟩

theorem sound_zeroFlows (h : c.sound) : c.mapForce.sound := by
  obtain ⟨-, -, -, -, hacc, hmass, -⟩ := h
  exact ⟨rfl, by simp [mapForce], Nat.zero_le _, by simp [mapForce], hacc, hmass, Nat.zero_le _⟩

theorem sound_reset : Channel.reset.sound := by simp [sound, reset]

end Channel

theorem logs_sound : Logs fun c _ _ => c.sound where
  recorded _ _ _ _ _ h := h
  sequence _ _ _ _ h := h
  run c _ _ run hrun h := by
    obtain ⟨hlen, hflows, hgood, hmean, hacc, hmass, -⟩ := h
    exact ⟨hlen, hflows, hgood, hmean, hacc, hmass, hrun⟩
  marks _ _ _ _ _ _ h := h
  emptied c _ _ h := by
    obtain ⟨hlen, hflows, hgood, hmean, -, -, hrun⟩ := h
    exact ⟨hlen, hflows, hgood, hmean, Nat.zero_le _, (Nat.zero_div 40).symm, hrun⟩
  lastGood c _ _ u hu h := by
    obtain ⟨hlen, hflows, -, hrest⟩ := h
    exact ⟨hlen, hflows, hu, hrest⟩
  entered c _ _ u hu h := Channel.sound_enterWindow (hu.elim id fun e => e ▸ h.2.2.1) h
  integrated _ _ _ u h := Channel.sound_integrate u h
  mapped _ _ _ h := Channel.sound_zeroFlows h
  reset := Channel.sound_reset

end Sys2Proof.Machine

namespace Sys2Proof.Settled

open Sys2Proof.Machine

/-- Settles O10: every flow that enters the window or becomes the last good one is trimmed to 20,000, and F and the mass are
computed anew with the window and the accumulator. -/
theorem meterKept : Obligations.MeterKept :=
  fun _ _ h he => step_keeps (P := fun _ p => p.logs fun c _ _ => c.sound) logs_sound.keeps h he

end Sys2Proof.Settled
end

section
/-! PROOFS. Every count of samples stands below the value that acts, and at 0 in the states that do not count (R61, R80, R99, R108,
R112, R141, R154, R169). -/

set_option Elab.async false

namespace Sys2Proof.Machine

namespace Spout

variable {p q : Spout}

/-! ### The counts in every state, and by the state -/

/-- R80, R99, R112, R134, R169: the counts whose bounds no state lowers. -/
def runs (p : Spout) : Prop :=
  p.ctl.pacing < 8 ∧ p.reportCount < p.par.reportInterval ∧ p.ctl.stuckRun < 1200 ∧
    (∀ n, p.ctl.pressureWait = some n → n < 800) ∧ p.ctl.tailAge < 4000 ∧ p.ctl.settleRun < 400 ∧
    p.ctl.duration ≤ 4294967295

/-- R108, R112, R154: the counts of the flood run, the air-lost run and the stuck-gate run, by the state. -/
def runsByState (p : Spout) : Prop :=
  (p.ctl.state = .coarse → p.ctl.floodRun < 8) ∧ (p.ctl.state = .fine → p.ctl.floodRun < 400) ∧
    (p.ctl.state.gateOpen = true → p.ctl.airLostRun < 200) ∧
    (p.ctl.state.gateOpen = false → p.ctl.floodRun = 0 ∧ p.ctl.airLostRun = 0) ∧
    (p.ctl.state.stuckExempt = true → p.ctl.stuckRun = 0)

theorem runsSound_iff : p.runsSound ↔ p.stepSound ∧ p.paramsSound ∧ p.runs ∧ p.runsByState := by
  unfold runsSound runs runsByState
  tauto

/-- The counts of a spout at rest. -/
def runsAtRest (p : Spout) : Prop := p.paramsSound ∧ p.runs ∧ p.ctl.floodRun = 0 ∧ p.ctl.airLostRun = 0

theorem runs_enter {st : SpoutState} (h : p.runs) : (p.enter st).runs := by
  obtain ⟨hpace, hreport, hstuck, hrest⟩ := h
  refine ⟨hpace, hreport, ?_, hrest⟩
  simp only [enter]
  split <;> omega

theorem runsAtRest_enter {st : SpoutState} (h : p.runsAtRest) : (p.enter st).runsAtRest :=
  ⟨paramsSound_congr h.1, runs_enter h.2.1, h.2.2⟩

theorem runsByState_of_closed (hg : p.ctl.state.gateOpen = false) (hflood : p.ctl.floodRun = 0) (hair : p.ctl.airLostRun = 0)
    (hstuck : p.ctl.state.stuckExempt = true → p.ctl.stuckRun = 0) : p.runsByState := by
  refine ⟨fun e => ?_, fun e => ?_, fun e => ?_, fun _ => ⟨hflood, hair⟩, hstuck⟩
  · rw [e] at hg; cases hg
  · rw [e] at hg; cases hg
  · rw [hg] at e; cases e

theorem runsByState_of_open (hg : p.ctl.state.gateOpen = true) (hcoarse : p.ctl.state = .coarse → p.ctl.floodRun < 8)
    (hfine : p.ctl.state = .fine → p.ctl.floodRun < 400) (hair : p.ctl.airLostRun < 200) (hstuck : p.ctl.stuckRun = 0) :
    p.runsByState :=
  ⟨hcoarse, hfine, fun _ => hair, fun e => (by rw [hg] at e; cases e), fun _ => hstuck⟩

theorem runsSound_enter {st : SpoutState} (hs : (p.enter st).stepSound) (hg : st.gateOpen = false) (h : p.runsAtRest) :
    (p.enter st).runsSound := by
  obtain ⟨hpar, hruns, hflood, hair⟩ := runsAtRest_enter (st := st) h
  exact runsSound_iff.mpr ⟨hs, hpar, hruns, runsByState_of_closed hg hflood hair fun hx => if_pos hx⟩

theorem runsAtRest_of_closed (hg : p.ctl.state.gateOpen = false) (h : p.runsSound) : p.runsAtRest := by
  obtain ⟨-, hpar, hruns, -, -, -, hzero, -⟩ := runsSound_iff.mp h
  exact ⟨hpar, hruns, hzero hg⟩

theorem runsAtRest_shutGate (h : p.runsSound) : p.shutGate.runsAtRest := by
  refine shutGate_rule (fun _ => ?_) fun hg => runsAtRest_of_closed hg h
  obtain ⟨-, hpar, hruns, -⟩ := runsSound_iff.mp h
  exact ⟨paramsSound_congr hpar, hruns, rfl, rfl⟩

theorem runsAtRest_giveUpAir (h : p.runsAtRest) : p.giveUpAir.runsAtRest := by
  obtain ⟨hpar, ⟨hpace, hreport, hstuck, -, hrest⟩, hzero⟩ := id h
  unfold giveUpAir
  split
  · exact h
  · exact ⟨paramsSound_congr hpar, h.2⟩
  · exact ⟨paramsSound_congr hpar, ⟨hpace, hreport, hstuck, fun n e => (by cases e), hrest⟩, hzero⟩

/-- What changes no count, no state and no parameter. -/
theorem runsSound_congr (h : p.runsSound) (hs : p.stepSound → q.stepSound) (hctl : q.ctl = p.ctl := by rfl)
    (hpar : q.par = p.par := by rfl) (hreport : q.reportCount = p.reportCount := by rfl) : q.runsSound := by
  rw [runsSound_iff, runs, runsByState] at h ⊢
  rw [hctl, hpar, hreport]
  exact ⟨hs h.1, paramsSound_congr h.2.1 hpar (by rw [hctl]), h.2.2⟩

theorem runsAtRest_congr (h : p.runsAtRest) (hctl : q.ctl = p.ctl := by rfl)
    (hpar : q.par = p.par := by rfl) (hreport : q.reportCount = p.reportCount := by rfl) : q.runsAtRest := by
  rw [runsAtRest, runs] at h ⊢
  rw [hctl, hpar, hreport]
  exact ⟨paramsSound_congr h.1 hpar (by rw [hctl]), h.2⟩

end Spout

theorem runsSound_rests : Rests Spout.runsSound Spout.runsAtRest where
  stepSound _ h := h.1
  marked _ _ e h := marked_of_unmarked (fun _ => rfl) e h
  toRest p st hst hstep h := Spout.runsSound_enter (Spout.stepSound_enter hst.1 hstep) hst.2.2 h
  toStep p k h :=
    Spout.runsSound_congr (Spout.runsSound_enter (p := { p with zero := (p.startStep k).zero }) (st := .zeroing)
      (Spout.stepSound_startStep k) rfl (Spout.runsAtRest_congr h)) id
  atRest _ _ _ hg h := Spout.runsAtRest_of_closed hg h
  released _ _ h := Spout.runsAtRest_giveUpAir (Spout.runsAtRest_shutGate h)
  giveUp _ h := Spout.runsAtRest_giveUpAir h
  enter _ _ h := Spout.runsAtRest_enter h
  zeroWork _ _ _ _ _ h := Spout.runsAtRest_congr h
  parts _ _ _ _ h := ⟨Spout.paramsSound_congr h.1, h.2⟩
  tail _ _ _ _ _ h := by
    obtain ⟨hpar, ⟨hpace, hreport, hstuck, hwait, -, -, hdur⟩, hzero⟩ := h
    exact ⟨Spout.paramsSound_congr hpar, ⟨hpace, hreport, hstuck, hwait, Nat.zero_lt_succ _, Nat.zero_lt_succ _, hdur⟩, hzero⟩
  unstuck _ h := by
    obtain ⟨hpar, ⟨hpace, hreport, -, hrest⟩, hzero⟩ := h
    exact ⟨Spout.paramsSound_congr hpar, ⟨hpace, hreport, Nat.zero_lt_succ _, hrest⟩, hzero⟩
  close _ _ path _ h := by
    obtain ⟨hpar, ⟨hpace, hreport, hstuck, hwait, -, -, hdur⟩, hzero⟩ := h
    exact ⟨Spout.paramsSound_tau hpar (Spout.tau_recorded_le path hpar) rfl rfl,
      ⟨hpace, hreport, hstuck, hwait, Nat.zero_lt_succ _, Nat.zero_lt_succ _, hdur⟩, hzero⟩
  queue _ _ _ _ h := Spout.runsAtRest_congr h
  requeue _ _ _ h := Spout.runsSound_congr h id
  reorigin p st _ hs h := Spout.runsSound_congr h fun hp => by simpa [Spout.stepSound, hs] using hp
  proceed _ _ h := Spout.runsSound_congr h id
  opened p o rest _ h := by
    obtain ⟨hpar, ⟨hpace, hreport, hstuck, hwait, hage, hsettle, -⟩, hzero⟩ := h
    have hs : (p.openWith o rest).stepSound := by simp [Spout.stepSound, Spout.openWith]
    exact Spout.runsSound_iff.mpr ⟨hs, Spout.paramsSound_congr hpar, ⟨hpace, hreport, hstuck, hwait, hage, hsettle, Nat.zero_le _⟩,
      Spout.runsByState_of_closed rfl hzero.1 hzero.2 fun e => by cases e⟩

theorem runsSound_readsNoZero : ReadsNoZero Spout.runsSound Spout.runsAtRest where
  rest _ _ h := Spout.runsAtRest_congr h
  run p z hz h := Spout.runsSound_congr h fun hp => by simpa [Spout.stepSound, hz] using hp

namespace Spout

variable {p q : Spout}

theorem stuckRun_zero (hg : p.ctl.state.gateOpen = true) (h : p.runsByState) : p.ctl.stuckRun = 0 :=
  h.2.2.2.2 (by revert hg; cases p.ctl.state <;> simp [SpoutState.gateOpen, SpoutState.stuckExempt])

theorem runs_openGate (h : p.runs) : p.openGate.runs := by
  obtain ⟨hpace, hreport, hstuck, -, hrest⟩ := runs_enter (st := (p.ctl.resumePhase.getD .coarse).state) h
  exact ⟨hpace, hreport, hstuck, fun n e => (by cases e), hrest⟩

theorem runsSound_openGate (hst : p.ctl.state = .awaitAir) (h : p.runsSound) : p.openGate.runsSound := by
  obtain ⟨hs, hpar, hruns, -⟩ := runsSound_iff.mp h
  have hstep : p.zero.step = none := stepSound_none hs (by simp [hst])
  have hopen : (p.ctl.resumePhase.getD .coarse).state.gateOpen = true ∧ (p.ctl.resumePhase.getD .coarse).state ≠ .zeroing ∧
      (p.ctl.resumePhase.getD .coarse).state.stuckExempt = true := by
    cases p.ctl.resumePhase.getD .coarse <;> simp [Phase.state, SpoutState.gateOpen, SpoutState.stuckExempt]
  exact runsSound_iff.mpr ⟨stepSound_enter (p := p) hopen.2.1 hstep, paramsSound_congr hpar, runs_openGate hruns,
    runsByState_of_open hopen.1 (fun _ => Nat.zero_lt_succ _) (fun _ => Nat.zero_lt_succ _) (Nat.zero_lt_succ _)
      (if_pos hopen.2.2)⟩

theorem runsSound_takeGrant (h : p.runsSound) : p.takeGrant.runsSound := by
  obtain ⟨hs, hpar, ⟨hpace, hreport, hstuck, -, hrest⟩, hstate⟩ := runsSound_iff.mp h
  exact runsSound_iff.mpr ⟨hs, paramsSound_congr hpar,
    ⟨hpace, hreport, hstuck, fun n e => by cases e; omega, hrest⟩, hstate⟩

/-- R83, R109: the flood run starts again in FINE. -/
theorem runsSound_fine {sent : Nat} (hst : p.ctl.state = .coarse) (h : p.runsSound) (hctl : q.ctl = { p.ctl with
      state := .fine, stuckRun := 0, resumePhase := some .fine, gateDemand := p.par.fineOpening, sentDemand := sent,
      floodRun := 0 }) (hpar : q.par = p.par) (hreport : q.reportCount = p.reportCount) (hzero : q.zero = p.zero) :
    q.runsSound := by
  obtain ⟨hs, hparams, hruns, -, -, hair, -⟩ := runsSound_iff.mp h
  have hstep : q.zero.step = none := by rw [hzero]; exact stepSound_none hs (by simp [hst])
  have hair' := hair (by rw [hst]; rfl)
  obtain ⟨hpace, hcount, -, hrest⟩ := hruns
  refine runsSound_iff.mpr ⟨by simp [stepSound, hstep, hctl], paramsSound_congr hparams hpar (by rw [hctl]), ?_, ?_⟩
  · rw [runs, hctl, hpar, hreport]
    exact ⟨hpace, hcount, Nat.zero_lt_succ _, hrest⟩
  · rw [runsByState, hctl]
    exact ⟨fun e => (by cases e), fun _ => Nat.zero_lt_succ _, fun _ => hair', fun e => (by cases e), fun _ => rfl⟩

theorem reportInterval_pos (h : p.paramsSound) : 0 < p.par.reportInterval := by
  have hr : clamp 40 400 p.par.reportInterval = p.par.reportInterval := h .reportInterval
  have := (clamp_mem (show 40 ≤ 400 by omega) p.par.reportInterval).1
  omega

theorem settleCount_le (h : p.paramsSound) : p.par.settleCount ≤ 400 :=
  (show clamp 20 400 p.par.settleCount = p.par.settleCount from h .settleCount).symm.le.trans (clamp_mem (by omega) _).2

theorem runsSound_tickFlood (hg : p.ctl.state.gateOpen = true) (hdrop : p.floodDropReached = false)
    (hclose : p.floodClosureReached = false) (h : p.runsSound) : p.tickFlood.runsSound := by
  obtain ⟨hs, hpar, hruns, hstate⟩ := runsSound_iff.mp h
  have hstuck := stuckRun_zero hg hstate
  obtain ⟨-, -, hair, -, -⟩ := hstate
  refine runsSound_iff.mpr ⟨hs, paramsSound_congr hpar, hruns, runsByState_of_open hg (fun e => ?_) (fun e => ?_) (hair hg) hstuck⟩
  · have e' : p.ctl.state = .coarse := e
    simp only [floodDropReached, e', beq_self_eq_true, Bool.true_and, Bool.and_eq_false_iff, decide_eq_false_iff_not] at hdrop
    simp only [tickFlood]
    split
    · rcases hdrop with hd | hd
      · simp_all
      · omega
    · omega
  · have e' : p.ctl.state = .fine := e
    simp only [floodClosureReached, e', beq_self_eq_true, Bool.true_and, Bool.and_eq_false_iff, decide_eq_false_iff_not] at hclose
    simp only [tickFlood]
    split
    · rcases hclose with hd | hd
      · simp_all
      · omega
    · omega

theorem runsSound_tickAirLost {low : Bool} (hg : p.ctl.state.gateOpen = true) (hlow : low = true → p.ctl.airLostRun + 1 < 200)
    (h : p.runsSound) : (p.tickAirLost low).runsSound := by
  obtain ⟨hs, hpar, hruns, hstate⟩ := runsSound_iff.mp h
  refine runsSound_iff.mpr ⟨hs, paramsSound_congr hpar, hruns,
    runsByState_of_open hg hstate.1 hstate.2.1 ?_ (stuckRun_zero (p := p) hg hstate)⟩
  simp only [tickAirLost]
  split
  · exact hlow (by assumption)
  · omega

theorem runsSound_tickPressure (hst : p.ctl.state = .awaitAir) (hreached : p.airFailReached = false) (h : p.runsSound) :
    p.tickPressure.runsSound := by
  obtain ⟨hs, hpar, ⟨hpace, hreport, hstuck, -, hrest⟩, hstate⟩ := runsSound_iff.mp h
  refine runsSound_iff.mpr ⟨hs, paramsSound_congr hpar, ⟨hpace, hreport, hstuck, fun n e => ?_, hrest⟩, hstate⟩
  obtain ⟨m, hm, rfl⟩ := Option.map_eq_some_iff.mp e
  simp [airFailReached, hst, hm] at hreached
  omega

theorem runsSound_tickStuck {isOpen : Bool}
    (hopen : isOpen = true → p.ctl.state.stuckExempt = false ∧ p.ctl.stuckRun + 1 < 1200) (h : p.runsSound) :
    (p.tickStuck isOpen).runsSound := by
  obtain ⟨hs, hpar, ⟨hpace, hreport, -, hrest⟩, hcoarse, hfine, hair, hzero, -⟩ := runsSound_iff.mp h
  refine runsSound_iff.mpr ⟨hs, paramsSound_congr hpar, ⟨hpace, hreport, ?_, hrest⟩, hcoarse, hfine, hair, hzero, fun hx => ?_⟩
  · simp only [tickStuck]
    split
    · next e => exact (hopen e).2
    · omega
  · simp only [tickStuck] at hx ⊢
    split
    · next e => rw [(hopen e).1] at hx; cases hx
    · rfl

theorem runsSound_tickTail (hst : p.ctl.state = .tailing) (hsettle : p.settleReached = false) (htimeout : p.timeoutReached = false)
    (h : p.runsSound) :
    ({ p with ctl := { p.ctl with
      tailAge := p.ctl.tailAge + 1, settleRun := if p.quiet then p.ctl.settleRun + 1 else 0 } } : Spout).runsSound := by
  obtain ⟨hs, hpar, ⟨hpace, hreport, hstuck, hwait, -, -, hdur⟩, hstate⟩ := runsSound_iff.mp h
  have hcount := settleCount_le hpar
  have hage : p.ctl.tailAge + 1 < 4000 := by
    simp only [timeoutReached, hst, hsettle, beq_self_eq_true, Bool.not_false, Bool.true_and, decide_eq_false_iff_not] at htimeout
    omega
  refine runsSound_iff.mpr ⟨hs, paramsSound_congr hpar, ⟨hpace, hreport, hstuck, hwait, hage, ?_, hdur⟩, hstate⟩
  dsimp only
  split
  · next hq =>
    simp only [settleReached, hst, hq, beq_self_eq_true, Bool.true_and, decide_eq_false_iff_not] at hsettle
    omega
  · omega

theorem runsSound_pace (h : p.runsSound) : p.pace.runsSound := by
  obtain ⟨hs, hpar, ⟨-, hrest⟩, hstate⟩ := runsSound_iff.mp h
  exact pace_rule (fun _ => runsSound_iff.mpr ⟨hs, paramsSound_congr hpar, ⟨Nat.zero_lt_succ _, hrest⟩, hstate⟩)
    fun _ _ _ => runsSound_iff.mpr ⟨hs, paramsSound_congr hpar, ⟨Nat.zero_lt_succ _, hrest⟩, hstate⟩

theorem runsSound_countPacing (h : p.runsSound) : p.countPacing.runsSound := by
  unfold countPacing
  split
  · exact runsSound_pace h
  · next hc =>
    obtain ⟨hs, hpar, ⟨-, hrest⟩, hstate⟩ := runsSound_iff.mp h
    have hlt : p.ctl.pacing + 1 < 8 := not_le.mp fun hle => hc (decide_eq_true hle)
    exact runsSound_iff.mpr ⟨hs, paramsSound_congr hpar, ⟨hlt, hrest⟩, hstate⟩

theorem runsSound_reportExpires (h : p.runsSound) : p.reportExpires.runsSound := by
  obtain ⟨hs, hpar, ⟨hpace, -, hrest⟩, hstate⟩ := runsSound_iff.mp h
  exact runsSound_iff.mpr ⟨hs, paramsSound_congr hpar, ⟨hpace, reportInterval_pos hpar, hrest⟩, hstate⟩

theorem runsSound_countReport (h : p.runsSound) : p.countReport.runsSound := by
  unfold countReport
  split
  · exact runsSound_reportExpires h
  · next hc =>
    obtain ⟨hs, hpar, ⟨hpace, -, hrest⟩, hstate⟩ := runsSound_iff.mp h
    have hlt : p.reportCount + 1 < p.par.reportInterval := by simpa [reportReached] using hc
    exact runsSound_iff.mpr ⟨hs, paramsSound_congr hpar, ⟨hpace, hlt, hrest⟩, hstate⟩

theorem runsSound_countDuration (h : p.runsSound) : p.countDuration.runsSound := by
  unfold countDuration
  split
  · obtain ⟨hs, hpar, ⟨hpace, hreport, hstuck, hwait, hage, hsettle, -⟩, hstate⟩ := runsSound_iff.mp h
    exact runsSound_iff.mpr ⟨hs, paramsSound_congr hpar,
      ⟨hpace, hreport, hstuck, hwait, hage, hsettle, min_le_left _ _⟩, hstate⟩
  · exact h

theorem runsSound_setParam (r : SpoutParam) (v : Nat) (h : p.runsSound) : (p.setParam r (r.limit v)).runsSound := by
  have hpar := paramsSound_setParam r v h.2.1
  by_cases hr : r = .zeroMode
  · subst hr
    exact runsSound_readsNoZero.setCadence runsSound_rests _ h
  · obtain ⟨hs, -, ⟨hpace, hreport, hrest⟩, hcoarse, hfine, hair, hzero, hstuck⟩ := runsSound_iff.mp h
    cases r
    case zeroMode => exact absurd rfl hr
    case floodLimit =>
      exact runsSound_iff.mpr ⟨hs, hpar, ⟨hpace, hreport, hrest⟩, fun _ => Nat.zero_lt_succ _, fun _ => Nat.zero_lt_succ _, hair,
        fun hg => ⟨rfl, (hzero hg).2⟩, hstuck⟩
    case reportInterval =>
      exact runsSound_iff.mpr ⟨hs, hpar, ⟨hpace, reportInterval_pos hpar, hrest⟩, hcoarse, hfine, hair, hzero, hstuck⟩
    case minOpening =>
      refine runsSound_iff.mpr ⟨?_, hpar, ?_⟩ <;> simp only [setParam, setMinOpening] <;> split
      · exact hs
      · exact hs
      · exact ⟨⟨hpace, hreport, hrest⟩, hcoarse, hfine, hair, hzero, hstuck⟩
      · exact ⟨⟨hpace, hreport, hrest⟩, hcoarse, hfine, hair, hzero, hstuck⟩
    all_goals exact runsSound_iff.mpr ⟨hs, hpar, ⟨hpace, hreport, hrest⟩, hcoarse, hfine, hair, hzero, hstuck⟩

theorem runsSound_restart (h : p.runsSound) : p.restart.runsSound := by
  have hpar : p.restart.paramsSound := paramsSound_congr h.2.1
  have hs : p.restart.stepSound := by
    simp [stepSound, restart, ZeroTracker.restart, ZeroTracker.reset, Control.restart, Control.reset]
  have hreport : p.restart.reportCount < p.restart.par.reportInterval := reportInterval_pos (p := p) h.2.1
  refine runsSound_iff.mpr ⟨hs, hpar, ⟨Nat.zero_lt_succ _, hreport, Nat.zero_lt_succ _, fun n e => (by cases e),
    Nat.zero_lt_succ _, Nat.zero_lt_succ _, Nat.zero_le _⟩, runsByState_of_closed rfl rfl rfl fun _ => rfl⟩

theorem runsSound_reset : reset.runsSound := by
  have hs : reset.stepSound := by simp [stepSound, reset, ZeroTracker.reset, Control.reset]
  exact runsSound_iff.mpr ⟨hs, paramsSound_reset, ⟨Nat.zero_lt_succ _, reportInterval_pos paramsSound_reset, Nat.zero_lt_succ _,
    fun n e => (by cases e), Nat.zero_lt_succ _, Nat.zero_lt_succ _, Nat.zero_le _⟩,
    runsByState_of_closed rfl rfl rfl fun _ => rfl⟩

end Spout

theorem loads_runsSound (s : State) : Loads s (fun _ p => p.runsSound) fun _ p => p.runsAtRest where
  rests _ := runsSound_rests
  zeroMoves _ := runsSound_readsNoZero.zeroMoves runsSound_rests
  takeGrant _ _ _ h := Spout.runsSound_takeGrant h
  openGate _ _ hst _ h := Spout.runsSound_openGate hst h
  enterAwait _ p hst h :=
    have hstep : p.zero.step = none := stepSound_none h.1 (by simp [hst])
    Spout.runsSound_congr (Spout.runsSound_enter (st := .awaitAir) (Spout.stepSound_enter (by simp) hstep) rfl
      (Spout.runsAtRest_of_closed (by rw [hst]; rfl) h)) id
  resumeWaits i hst h := by
    obtain ⟨hstep, hrest⟩ := runsSound_rests.leaveHeld hst h
    have hs : (s.spout i).leaveHeld.becomeWaiter.stepSound := Spout.stepSound_enter (p := s.spout i) (st := .awaitAir) (by simp) hstep
    exact Spout.runsSound_iff.mpr ⟨hs, Spout.paramsSound_congr hrest.1, hrest.2.1,
      Spout.runsByState_of_closed rfl hrest.2.2.1 hrest.2.2.2 fun e => by cases e⟩
  acceptForce _ _ _ h := Spout.runsSound_congr h id
  countMissed _ _ h := Spout.runsSound_congr h id
  starveChannel _ _ h := Spout.runsSound_congr h id
  workGood _ p raw hs _ h := by
    obtain ⟨range, alerts, e⟩ := Logs.watchRange_chan raw hs p
    unfold Spout.workGood
    rw [e]
    exact Spout.runsSound_congr h id
  workFill _ _ h := Spout.runsSound_congr h id
  countDuration _ _ h := Spout.runsSound_countDuration h
  enterFineBand _ _ hst h := Spout.runsSound_fine hst h rfl rfl rfl rfl
  floodDrop _ _ hst h := Spout.runsSound_fine hst h rfl rfl rfl rfl
  tickFlood _ _ hg hd hc h := Spout.runsSound_tickFlood hg hd hc h
  countPacing _ _ h := Spout.runsSound_countPacing h
  pace _ _ h := Spout.runsSound_pace h
  tickAirLost _ _ _ hg hlow h := Spout.runsSound_tickAirLost hg hlow h
  tickPressure _ _ hst hr h := Spout.runsSound_tickPressure hst hr h
  tickStuck _ _ _ ho h := Spout.runsSound_tickStuck ho h
  tickTail _ _ hst hs ht h := Spout.runsSound_tickTail hst hs ht h
  countReport _ _ h := Spout.runsSound_countReport h
  reportExpires _ _ h := Spout.runsSound_reportExpires h
  setParam _ q v _ h := Spout.runsSound_setParam q v h
  written _ _ _ _ _ h := Spout.runsSound_congr h id
  failSwitch _ _ h := Spout.runsSound_congr h id
  deferSwitch _ _ _ h := Spout.runsSound_congr h id
  switchNow _ _ _ h := Spout.runsSound_congr h id
  mapForce _ _ h := Spout.runsSound_congr h id
  woken _ _ hst _ _ h := Spout.runsAtRest_of_closed (by rw [hst]; rfl) h
  append _ _ _ h := Spout.runsSound_congr h id
  restart _ _ h := Spout.runsSound_restart h
  reset _ := Spout.runsSound_reset

end Sys2Proof.Machine
end

section
/-! PROOFS. The zero, the owed count, the due counter, the set, the step and the retry wait of a spout stay in their ranges (R36
to R50), and the settled statement about the zero tracker and the counts of samples. -/

set_option Elab.async false

namespace Sys2Proof.Machine

/-! ### The zero tracker apart from the step -/

/-- R37: a set is 256 samples in every cadence. -/
theorem stepsPerSet_mul_stepLength (c : Cadence) : c.stepsPerSet * stepLength c .normal = 256 := by cases c <;> rfl

theorem stepsPerSet_pos (c : Cadence) : 0 < c.stepsPerSet := by cases c <;> decide
theorem stepLength_pos (c : Cadence) (k : StepKind) : 0 < stepLength c k := by cases c <;> cases k <;> decide
theorem stepLength_of_ne_normal {k : StepKind} (c d : Cadence) (hk : k ≠ .normal) : stepLength c k = stepLength d k := by
  cases k <;> simp_all [stepLength]
theorem stepLength_of_ne_normal_eq {k : StepKind} (c : Cadence) (hk : k ≠ .normal) : stepLength c k = 256 := by
  cases k <;> simp_all [stepLength]

theorem candidateZero_le {sum : Nat} (h : sum ≤ 256 * 1048575) : candidateZero sum ≤ 1048575 := by
  unfold candidateZero; omega

/-- R36: the ranges of the zero tracker that hold between steps; `period` is the due period. -/
structure ZeroTracker.ranges (period : Nat) (z : ZeroTracker) : Prop where
  zero_le : z.zero ≤ 1048575
  owed_le : z.owed ≤ 8
  due_lt : z.dueCount < period
  steps_lt : z.stepsDone < z.cadence.stepsPerSet
  sum_le : z.partialSum ≤ z.stepsDone * (stepLength z.cadence .normal * 1048575)
  wait_range : ∀ n, z.retryWait = some n → 1 ≤ n ∧ n ≤ 400

/-- R41: the ranges of a step in progress. -/
structure ZeroStep.ranges (c : Cadence) (st : ZeroStep) : Prop where
  length_eq : st.length = stepLength c st.kind
  taken_lt : st.taken < st.length
  sum_le : st.sum ≤ st.taken * 1048575
  band_le : st.band ≤ 65535

namespace Spout

variable {p q : Spout} {st : ZeroStep}

theorem zeroBand_le (h : p.paramsSound) : p.par.zeroBand ≤ 65535 :=
  (show clamp 0 65535 p.par.zeroBand = p.par.zeroBand from h .zeroBand).symm.le.trans (clamp_mem (by omega) _).2

theorem zeroInterval_ge (h : p.paramsSound) : 10 ≤ p.par.zeroInterval := by
  have hr : clamp 10 600 p.par.zeroInterval = p.par.zeroInterval := h .zeroInterval
  have := (clamp_mem (show 10 ≤ 600 by omega) p.par.zeroInterval).1
  omega

theorem duePeriod_pos (h : p.paramsSound) : 0 < p.duePeriod := by
  have hge := zeroInterval_ge h
  unfold duePeriod
  cases p.zero.cadence <;> simp only [Cadence.stepsPerSet] <;> omega

/-- The zero tracker of a spout at rest. -/
def zeroAtRest (p : Spout) : Prop := p.paramsSound ∧ p.zero.ranges p.duePeriod

theorem zeroSound_iff : p.zeroSound ↔ p.stepSound ∧ p.zeroAtRest ∧ ∀ st, p.zero.step = some st → st.ranges p.zero.cadence := by
  constructor
  · rintro ⟨hs, hpar, hzero, howed, hdue, hdone, hsum, hwait, hstep⟩
    refine ⟨hs, ⟨hpar, hzero, howed, hdue, hdone, hsum, hwait⟩, fun st e => ?_⟩
    obtain ⟨hlen, htaken, hssum, hband⟩ := hstep st e
    exact ⟨hlen, htaken, hssum, hband⟩
  · rintro ⟨hs, ⟨hpar, hzero, howed, hdue, hdone, hsum, hwait⟩, hstep⟩
    refine ⟨hs, hpar, hzero, howed, hdue, hdone, hsum, hwait, fun st e => ?_⟩
    obtain ⟨hlen, htaken, hssum, hband⟩ := hstep st e
    exact ⟨hlen, htaken, hssum, hband⟩

theorem zeroSound_of_none (hs : p.stepSound) (hstep : p.zero.step = none) (h : p.zeroAtRest) : p.zeroSound :=
  zeroSound_iff.mpr ⟨hs, h, fun st e => by rw [hstep] at e; cases e⟩

/-- What changes neither the parameters nor what the ranges speak of. -/
theorem zeroAtRest_congr (h : p.zeroAtRest) (hpar : q.par = p.par := by rfl) (htau : q.ctl.tau = p.ctl.tau := by rfl)
    (hzero : q.zero.zero = p.zero.zero := by rfl) (hcad : q.zero.cadence = p.zero.cadence := by rfl)
    (hdue : q.zero.dueCount = p.zero.dueCount := by rfl) (howed : q.zero.owed = p.zero.owed := by rfl)
    (hdone : q.zero.stepsDone = p.zero.stepsDone := by rfl) (hsum : q.zero.partialSum = p.zero.partialSum := by rfl)
    (hwait : q.zero.retryWait = p.zero.retryWait ∨ q.zero.retryWait = none ∨ q.zero.retryWait = some 400 := by exact .inl rfl) :
    q.zeroAtRest := by
  obtain ⟨hparams, hz, ho, hd, hn, hs, hw⟩ := h
  have hperiod : q.duePeriod = p.duePeriod := by rw [duePeriod, duePeriod, hpar, hcad]
  refine ⟨paramsSound_congr hparams hpar htau, hzero ▸ hz, howed ▸ ho, by rw [hdue, hperiod]; exact hd, by rw [hdone, hcad]; exact hn,
    by rw [hsum, hdone, hcad]; exact hs, fun n e => ?_⟩
  rcases hwait with e' | e' | e' <;> rw [e'] at e
  · exact hw n e
  · cases e
  · cases e; omega

theorem zeroSound_congr (h : p.zeroSound) (hs : p.stepSound → q.stepSound) (hpar : q.par = p.par := by rfl)
    (htau : q.ctl.tau = p.ctl.tau := by rfl) (hzero : q.zero = p.zero := by rfl) : q.zeroSound := by
  obtain ⟨hp, hrest, hstep⟩ := zeroSound_iff.mp h
  refine zeroSound_iff.mpr ⟨hs hp, ?_, ?_⟩
  · exact zeroAtRest_congr hrest hpar htau (by rw [hzero]) (by rw [hzero]) (by rw [hzero]) (by rw [hzero]) (by rw [hzero])
      (by rw [hzero]) (.inl (by rw [hzero]))
  · rw [hzero]; exact hstep

theorem zeroSound_startStep (k : StepKind) (h : p.zeroAtRest) : (p.startStep k).zeroSound := by
  have hband := zeroBand_le h.1
  refine zeroSound_iff.mpr ⟨stepSound_startStep k, zeroAtRest_congr h, fun st e => ?_⟩
  cases e
  exact ⟨rfl, stepLength_pos _ _, Nat.zero_le _, hband⟩

end Spout

theorem zeroSound_rests : Rests Spout.zeroSound Spout.zeroAtRest where
  stepSound _ h := h.1
  marked _ _ e h := marked_of_unmarked (fun _ => rfl) e h
  toRest _ _ hst hstep h := Spout.zeroSound_of_none (Spout.stepSound_enter hst.1 hstep) hstep (Spout.zeroAtRest_congr h)
  toStep _ k h := Spout.zeroSound_startStep k h
  atRest _ _ _ _ h := (Spout.zeroSound_iff.mp h).2.1
  released p _ h := by
    obtain ⟨-, hrest, -⟩ := Spout.zeroSound_iff.mp h
    have hs : p.shutGate.zeroAtRest := Spout.shutGate_rule (fun _ => Spout.zeroAtRest_congr hrest) fun _ => hrest
    unfold Spout.giveUpAir
    split
    · exact hs
    · exact Spout.zeroAtRest_congr hs
    · exact Spout.zeroAtRest_congr hs
  giveUp p h := by
    unfold Spout.giveUpAir
    split
    · exact h
    · exact Spout.zeroAtRest_congr h
    · exact Spout.zeroAtRest_congr h
  enter _ _ h := Spout.zeroAtRest_congr h
  zeroWork _ _ _ _ hwait h := Spout.zeroAtRest_congr h (hwait := hwait)
  parts _ _ _ _ h := Spout.zeroAtRest_congr h
  tail _ _ _ _ _ h := Spout.zeroAtRest_congr h
  unstuck _ h := Spout.zeroAtRest_congr h
  close p c path alerts h := by
    obtain ⟨hpar, hz⟩ := h
    have htau : ({ p with ctl := { p.ctl with tau := path.tau p } } : Spout).zeroAtRest :=
      ⟨Spout.paramsSound_tau hpar (Spout.tau_recorded_le path hpar) rfl rfl, hz⟩
    exact Spout.zeroAtRest_congr htau
  queue _ _ _ _ h := Spout.zeroAtRest_congr h
  requeue _ _ _ h := Spout.zeroSound_congr h id
  reorigin p st origin hs h := by
    obtain ⟨hp, hrest, hstep⟩ := Spout.zeroSound_iff.mp h
    refine Spout.zeroSound_iff.mpr ⟨by simpa [Spout.stepSound, hs] using hp, Spout.zeroAtRest_congr hrest, fun st' e => ?_⟩
    cases e
    obtain ⟨hlen, htaken, hsum, hband⟩ := hstep st hs
    exact ⟨hlen, htaken, hsum, hband⟩
  proceed p _ h := by
    obtain ⟨hp, hrest, hstep⟩ := Spout.zeroSound_iff.mp h
    exact Spout.zeroSound_iff.mpr ⟨hp, Spout.zeroAtRest_congr hrest, hstep⟩
  opened p o rest _ h :=
    Spout.zeroSound_of_none (by simp [Spout.stepSound, Spout.openWith]) rfl (Spout.zeroAtRest_congr h (hwait := .inr (.inl rfl)))

/-! ### Steps -/

namespace Spout

variable {p q : Spout} {st : ZeroStep}

theorem ranges_take {c : Cadence} {raw : Nat} (hraw : raw < 1048576) (ht : st.taken + 1 < st.length) (h : st.ranges c) :
    (st.take raw).ranges c := by
  obtain ⟨hlen, -, hsum, hband⟩ := h
  refine ⟨hlen, ht, ?_, hband⟩
  simp only [ZeroStep.take, Nat.add_mul]
  omega

/-- R41: the sum of a step that has taken its full length. -/
theorem sum_take_le {c : Cadence} {raw : Nat} (hraw : raw < 1048576) (h : st.ranges c) :
    (st.take raw).sum ≤ stepLength c st.kind * 1048575 := by
  obtain ⟨hlen, htaken, hsum, -⟩ := h
  have hmul : (st.taken + 1) * 1048575 ≤ stepLength c st.kind * 1048575 := Nat.mul_le_mul_right _ (by omega)
  rw [Nat.add_mul] at hmul
  simp only [ZeroStep.take]
  omega

/-- R37: no more than a set's samples are summed in a set. -/
theorem sum_set_le {c : Cadence} {n total sum : Nat} (hn : n + 1 ≤ c.stepsPerSet)
    (htotal : total ≤ n * (stepLength c .normal * 1048575)) (hsum : sum ≤ stepLength c .normal * 1048575) :
    total + sum ≤ (n + 1) * (stepLength c .normal * 1048575) ∧ total + sum ≤ 256 * 1048575 := by
  have hmul : (n + 1) * (stepLength c .normal * 1048575) ≤ c.stepsPerSet * (stepLength c .normal * 1048575) :=
    Nat.mul_le_mul_right _ hn
  rw [← Nat.mul_assoc c.stepsPerSet, stepsPerSet_mul_stepLength] at hmul
  rw [Nat.add_mul] at hmul ⊢
  omega

theorem zeroSound_endStep (hs : p.zero.step = some st) (h : p.zeroAtRest) : p.endStep.zeroSound :=
  zeroSound_rests.endStep_of hs h

theorem zeroSound_completeNormal {raw : Nat} (hs : p.zero.step = some st) (hk : st.kind = .normal) (hraw : raw < 1048576)
    (h : p.zeroSound) : ((p.takeSample raw).completeNormal (st.take raw)).zeroSound := by
  obtain ⟨-, ⟨hpar, hz⟩, hstep⟩ := zeroSound_iff.mp h
  have hst := step_takeSample raw hs
  have hset := sum_set_le hz.steps_lt hz.sum_le (hk ▸ sum_take_le hraw (hstep st hs))
  have howed := hz.owed_le
  have hone := stepsPerSet_pos p.zero.cadence
  refine completeNormal_rule (fun hgrow => ?_) (fun _ => ?_) fun _ _ => ?_
  · exact zeroSound_endStep hst ⟨paramsSound_congr hpar, hz.zero_le, (Nat.sub_le _ _).trans howed, hz.due_lt, hgrow, hset.1, hz.wait_range⟩
  · exact zeroSound_endStep hst
      ⟨paramsSound_congr hpar, candidateZero_le hset.2, Nat.zero_le _, hz.due_lt, hone, Nat.zero_le _, hz.wait_range⟩
  · exact zeroSound_endStep hst
      ⟨paramsSound_congr hpar, hz.zero_le, (Nat.sub_le _ _).trans howed, hz.due_lt, hone, Nat.zero_le _, hz.wait_range⟩

/-- R48, R50: a set of its own, of 256 samples. -/
theorem sum_take_le_of_ne_normal {c : Cadence} {raw : Nat} (hk : st.kind ≠ .normal) (hraw : raw < 1048576) (h : st.ranges c) :
    (st.take raw).sum ≤ 256 * 1048575 := by
  have hsum := sum_take_le hraw h
  rwa [stepLength_of_ne_normal_eq c hk] at hsum

theorem zeroSound_completeZeroNow {raw : Nat} (hs : p.zero.step = some st) (hk : st.kind = .zeroNow) (hraw : raw < 1048576)
    (h : p.zeroSound) : ((p.takeSample raw).judge true (st.take raw).sum).endStep.zeroSound := by
  obtain ⟨-, ⟨hpar, hz⟩, hstep⟩ := zeroSound_iff.mp h
  have hst := step_takeSample raw hs
  have hsum := sum_take_le_of_ne_normal (by simp [hk]) hraw (hstep st hs)
  refine judge_rule (P := fun q => q.endStep.zeroSound) (fun _ => ?_) fun _ => ?_
  · exact zeroSound_endStep hst
      ⟨paramsSound_congr hpar, candidateZero_le hsum, Nat.zero_le _, hz.due_lt, hz.steps_lt, hz.sum_le, hz.wait_range⟩
  · exact zeroSound_endStep hst (zeroAtRest_congr ⟨hpar, hz⟩)

theorem zeroSound_completeMakeup {raw : Nat} (hs : p.zero.step = some st) (hk : st.kind = .makeup) (hraw : raw < 1048576)
    (h : p.zeroSound) : ((p.takeSample raw).completeMakeup (st.take raw)).zeroSound := by
  obtain ⟨-, ⟨hpar, hz⟩, hstep⟩ := zeroSound_iff.mp h
  have hsum := sum_take_le_of_ne_normal (by simp [hk]) hraw (hstep st hs)
  have hone := stepsPerSet_pos p.zero.cadence
  exact zeroSound_endStep (p := { p.takeSample raw with zero := _ }) (step_takeSample raw hs)
    ⟨paramsSound_congr hpar, candidateZero_le hsum, Nat.zero_le _, hz.due_lt, hone, Nat.zero_le _, hz.wait_range⟩

/-- R49: after a change of the cadence a step in progress is in range unless it is a NORMAL one. -/
theorem zeroSound_setCadence (c : Cadence) (h : p.zeroSound) : (p.setCadence c).zeroSound := by
  obtain ⟨hp, ⟨hpar, hz⟩, hstep⟩ := zeroSound_iff.mp h
  have hstepEq : ∀ b, (p.zero.changeCadence c b).step = p.zero.step := fun b => by
    unfold ZeroTracker.changeCadence; split <;> rfl
  have hcad : ∀ b, (p.zero.changeCadence c b).cadence = c := fun b => by unfold ZeroTracker.changeCadence; split <;> rfl
  have hdue : ∀ b, (p.zero.changeCadence c b).dueCount = 0 := fun b => by unfold ZeroTracker.changeCadence; split <;> rfl
  have hrest : ∀ b, ({ p with zero := p.zero.changeCadence c b } : Spout).zeroAtRest := fun b => by
    have hpar' : ({ p with zero := p.zero.changeCadence c b } : Spout).paramsSound := paramsSound_congr hpar
    have hone := stepsPerSet_pos c
    refine ⟨hpar', ?_, ?_, by rw [hdue]; exact duePeriod_pos hpar', ?_, ?_, ?_⟩
    · unfold ZeroTracker.changeCadence; split <;> exact hz.zero_le
    · unfold ZeroTracker.changeCadence; split <;> exact hz.owed_le
    · rw [hcad]; unfold ZeroTracker.changeCadence; split
      · exact hone
      · dsimp only; omega
    · rw [hcad]; unfold ZeroTracker.changeCadence; split
      · exact Nat.zero_le _
      · have hsum := hz.sum_le
        have hnone : p.zero.stepsDone = 0 := by omega
        rw [hnone, Nat.zero_mul] at hsum
        exact hsum.trans (Nat.zero_le _)
    · unfold ZeroTracker.changeCadence; split <;> exact hz.wait_range
  unfold setCadence
  split
  · exact h
  · apply zeroSound_rests.examineZeroing
    unfold dropNormalStep
    split
    · next st hs =>
      split
      · exact zeroSound_endStep hs (hrest _)
      · next hk =>
        refine zeroSound_iff.mpr ⟨by simpa [stepSound, hstepEq] using hp, hrest _, fun st' e => ?_⟩
        rw [hs] at e
        cases e
        obtain ⟨hlen, htaken, hsum, hband⟩ := hstep st (by rw [← hstepEq]; exact hs)
        exact ⟨hlen.trans (stepLength_of_ne_normal _ _ hk), htaken, hsum, hband⟩
    · next hs => exact zeroSound_of_none (by simpa [stepSound, hstepEq] using hp) hs (hrest _)

end Spout

theorem zeroSound_zeroMoves : ZeroMoves Spout.zeroSound Spout.zeroAtRest where
  oweStep p h := by
    obtain ⟨hp, ⟨hpar, hz⟩, hstep⟩ := Spout.zeroSound_iff.mp h
    exact Spout.zeroSound_iff.mpr ⟨hp, ⟨Spout.paramsSound_congr hpar, hz.zero_le, min_le_left _ _, Spout.duePeriod_pos hpar,
      hz.steps_lt, hz.sum_le, hz.wait_range⟩, hstep⟩
  tickDue p hst hdue h := by
    obtain ⟨hp, ⟨hpar, hz⟩, hstep⟩ := Spout.zeroSound_iff.mp h
    have hlt : p.zero.dueCount + 1 < p.duePeriod := by simpa [Spout.dueReached, hst] using hdue
    exact Spout.zeroSound_iff.mpr
      ⟨hp, ⟨Spout.paramsSound_congr hpar, hz.zero_le, hz.owed_le, hlt, hz.steps_lt, hz.sum_le, hz.wait_range⟩, hstep⟩
  endRetry p h := by
    obtain ⟨hp, hrest, hstep⟩ := Spout.zeroSound_iff.mp h
    exact Spout.zeroSound_iff.mpr ⟨hp, Spout.zeroAtRest_congr hrest (hwait := .inr (.inl rfl)), hstep⟩
  tickRetry p hends h := by
    obtain ⟨hp, ⟨hpar, hz⟩, hstep⟩ := Spout.zeroSound_iff.mp h
    refine Spout.zeroSound_iff.mpr
      ⟨hp, ⟨Spout.paramsSound_congr hpar, hz.zero_le, hz.owed_le, hz.due_lt, hz.steps_lt, hz.sum_le, fun n e => ?_⟩, hstep⟩
    obtain ⟨m, hm, rfl⟩ := Option.map_eq_some_iff.mp e
    have hrange := hz.wait_range m hm
    simp only [Spout.retryEnds, hm, decide_eq_false_iff_not] at hends
    omega
  takeSample p raw st hs hraw ht h := by
    obtain ⟨hp, hrest, hstep⟩ := Spout.zeroSound_iff.mp h
    refine Spout.zeroSound_iff.mpr ⟨by simpa [Spout.stepSound, Spout.takeSample] using hp, Spout.zeroAtRest_congr hrest, fun st' e => ?_⟩
    rw [step_takeSample raw hs] at e
    cases e
    exact Spout.ranges_take hraw ht (hstep st hs)
  completeNormal _ _ _ hs hk hraw _ h := Spout.zeroSound_completeNormal hs hk hraw h
  completeZeroNow _ _ _ hs hk hraw _ h := Spout.zeroSound_completeZeroNow hs hk hraw h
  completeMakeup _ _ _ hs hk hraw _ h := Spout.zeroSound_completeMakeup hs hk hraw h
  zeroNow p hst h := by
    obtain ⟨-, ⟨hpar, hz⟩, -⟩ := Spout.zeroSound_iff.mp h
    unfold Spout.zeroNow
    split
    · exact Spout.zeroSound_startStep _ (Spout.zeroAtRest_congr ⟨hpar, hz⟩ (hwait := .inr (.inl rfl)))
    · exact Spout.zeroSound_startStep _ ⟨Spout.paramsSound_congr hpar, hz.zero_le, hz.owed_le, hz.due_lt,
        stepsPerSet_pos _, Nat.zero_le _, fun n e => by cases e⟩
  unpark p h := by
    obtain ⟨hpar, hz⟩ := h
    exact ⟨Spout.paramsSound_congr hpar, hz.zero_le, hz.owed_le, Spout.duePeriod_pos hpar, stepsPerSet_pos _, Nat.zero_le _,
      hz.wait_range⟩

namespace Spout

variable {p : Spout}

theorem zeroSound_openGate (hst : p.ctl.state = .awaitAir) (h : p.zeroSound) : p.openGate.zeroSound := by
  obtain ⟨hs, hrest, -⟩ := zeroSound_iff.mp h
  have hstep : p.zero.step = none := stepSound_none hs (by simp [hst])
  have hne : (p.ctl.resumePhase.getD .coarse).state ≠ .zeroing := by
    cases p.ctl.resumePhase.getD .coarse <;> simp [Phase.state]
  exact zeroSound_of_none (stepSound_enter (p := p) hne hstep) hstep (zeroAtRest_congr hrest)

theorem zeroSound_setParam (r : SpoutParam) (v : Nat) (h : p.zeroSound) : (p.setParam r (r.limit v)).zeroSound := by
  have hpar := paramsSound_setParam r v h.2.1
  by_cases hr : r = .zeroMode
  · subst hr
    exact zeroSound_setCadence _ h
  · obtain ⟨hs, ⟨-, hz⟩, hstep⟩ := zeroSound_iff.mp h
    cases r
    case zeroMode => exact absurd rfl hr
    case zeroInterval =>
      exact zeroSound_iff.mpr ⟨hs, ⟨hpar, hz.zero_le, hz.owed_le, duePeriod_pos hpar, hz.steps_lt, hz.sum_le, hz.wait_range⟩, hstep⟩
    case minOpening =>
      have hset : ∃ ctl gate, (p.setMinOpening (SpoutParam.minOpening.limit v)) =
          { p with
            par := { p.par with minOpening := SpoutParam.minOpening.limit v }
            ctl := { p.ctl with sentDemand := ctl }
            gatePending := gate } := by
        unfold setMinOpening
        dsimp only
        split
        · exact ⟨_, true, rfl⟩
        · exact ⟨p.ctl.sentDemand, p.gatePending, rfl⟩
      obtain ⟨sent, gate, e⟩ := hset
      simp only [setParam] at hpar ⊢
      rw [e] at hpar ⊢
      exact zeroSound_iff.mpr ⟨hs, ⟨hpar, hz⟩, hstep⟩
    all_goals exact zeroSound_iff.mpr ⟨hs, ⟨hpar, hz⟩, hstep⟩

theorem zeroSound_restart (h : p.zeroSound) : p.restart.zeroSound := by
  obtain ⟨-, ⟨hpar, hz⟩, -⟩ := zeroSound_iff.mp h
  have hs : p.restart.stepSound := by
    simp [stepSound, restart, ZeroTracker.restart, ZeroTracker.reset, Control.restart, Control.reset]
  have hpar' : p.restart.paramsSound := paramsSound_congr hpar
  exact zeroSound_of_none hs rfl ⟨hpar', hz.zero_le, hz.owed_le, duePeriod_pos hpar', stepsPerSet_pos _, Nat.zero_le _,
    fun n e => by cases e⟩

theorem zeroSound_reset : reset.zeroSound := by
  have hs : reset.stepSound := by simp [stepSound, reset, ZeroTracker.reset, Control.reset]
  exact zeroSound_of_none hs rfl ⟨paramsSound_reset, Nat.zero_le _, Nat.zero_le _, duePeriod_pos paramsSound_reset,
    stepsPerSet_pos _, Nat.zero_le _, fun n e => by cases e⟩

end Spout

theorem loads_zeroSound (s : State) : Loads s (fun _ p => p.zeroSound) fun _ p => p.zeroAtRest where
  rests _ := zeroSound_rests
  zeroMoves _ := zeroSound_zeroMoves
  takeGrant _ _ _ h := Spout.zeroSound_congr h id
  openGate _ _ hst _ h := Spout.zeroSound_openGate hst h
  enterAwait _ p hst h :=
    have hstep : p.zero.step = none := stepSound_none h.1 (by simp [hst])
    Spout.zeroSound_of_none (Spout.stepSound_enter (p := p) (st := .awaitAir) (by simp) hstep) hstep
      (Spout.zeroAtRest_congr (Spout.zeroSound_iff.mp h).2.1)
  resumeWaits i hst h :=
    have hl := zeroSound_rests.leaveHeld hst h
    Spout.zeroSound_of_none (Spout.stepSound_enter (p := s.spout i) (st := .awaitAir) (by simp) hl.1) hl.1
      (Spout.zeroAtRest_congr hl.2)
  acceptForce _ _ _ h := Spout.zeroSound_congr h id
  countMissed _ _ h := Spout.zeroSound_congr h id
  starveChannel _ _ h := Spout.zeroSound_congr h id
  workGood _ p raw hs _ h := by
    obtain ⟨range, alerts, e⟩ := Logs.watchRange_chan raw hs p
    unfold Spout.workGood
    rw [e]
    exact Spout.zeroSound_congr h id
  workFill _ _ h := Spout.zeroSound_congr h id
  countDuration _ p h := by
    unfold Spout.countDuration
    split
    · exact Spout.zeroSound_congr h id
    · exact h
  enterFineBand _ p hst h :=
    Spout.zeroSound_congr h fun hs => Spout.stepSound_fine (p := p) hst hs
  floodDrop _ p hst h := Spout.zeroSound_congr h fun hs => Spout.stepSound_fine (p := p) hst hs
  tickFlood _ _ _ _ _ h := Spout.zeroSound_congr h id
  countPacing _ p h := by
    unfold Spout.countPacing
    split
    · exact Spout.pace_rule (fun _ => Spout.zeroSound_congr h id) fun _ _ _ => Spout.zeroSound_congr h id
    · exact Spout.zeroSound_congr h id
  pace _ _ h := Spout.pace_rule (fun _ => Spout.zeroSound_congr h id) fun _ _ _ => Spout.zeroSound_congr h id
  tickAirLost _ _ _ _ _ h := Spout.zeroSound_congr h id
  tickPressure _ _ _ _ h := Spout.zeroSound_congr h id
  tickStuck _ _ _ _ h := Spout.zeroSound_congr h id
  tickTail _ _ _ _ _ h := Spout.zeroSound_congr h id
  countReport _ p h := by unfold Spout.countReport; split <;> exact Spout.zeroSound_congr h id
  reportExpires _ _ h := Spout.zeroSound_congr h id
  setParam _ q v _ h := Spout.zeroSound_setParam q v h
  written _ _ _ _ _ h := Spout.zeroSound_congr h id
  failSwitch _ _ h := Spout.zeroSound_congr h id
  deferSwitch _ _ _ h := Spout.zeroSound_congr h id
  switchNow _ _ _ h := Spout.zeroSound_congr h id
  mapForce i _ h := by
    obtain ⟨hp, hrest, hstep⟩ := Spout.zeroSound_iff.mp h
    exact Spout.zeroSound_iff.mpr ⟨hp, Spout.zeroAtRest_congr hrest, hstep⟩
  woken _ _ _ _ _ h := (Spout.zeroSound_iff.mp h).2.1
  append _ _ _ h := Spout.zeroSound_congr h id
  restart _ _ h := Spout.zeroSound_restart h
  reset _ := Spout.zeroSound_reset

end Sys2Proof.Machine

namespace Sys2Proof.Settled

open Sys2Proof.Machine

/-- Settles O11: a count that would reach the value at which it acts acts instead of rising, a set holds 256 samples in every
cadence, and a change of the cadence drops what the new one would put out of range. -/
theorem countsKept : Obligations.CountsKept :=
  ⟨fun _ _ h he => step_keeps (P := fun _ p => p.zeroSound) (fun u => (loads_zeroSound u).keeps) h he,
    fun _ _ h he => step_keeps (P := fun _ p => p.runsSound) (fun u => (loads_runsSound u).keeps) h he⟩

end Sys2Proof.Settled
end

section
/-! PROOFS. The queues agree with the spout states (R115, R116, R123, R126), the pool holds no more than 16 orders and the results
rings number their records (R91, R115, R130), and the settled statement about them. -/

set_option Elab.async false

namespace Sys2Proof.Machine

/-! ### Queues -/

/-- R115 to R119: a queue by itself. -/
structure QueueOk (q : List Order) : Prop where
  length_le : q.length ≤ 8
  nodup : (q.map Order.tag).Nodup
  sound : ∀ o ∈ q, o.sound
  fresh : ∀ o ∈ q.tail, o.nextIndex = 1 ∧ o.aborted = false

/-- R123: a PROCEED may open a compartment of the head order. -/
def HeadReady (q : List Order) : Prop := ∃ o rest, q = o :: rest ∧ o.ready

/-- R123, R127: the open compartment is the head order's newest. -/
def OpenCompartment.newestOf (c : OpenCompartment) (q : List Order) : Prop :=
  ∃ o rest, q = o :: rest ∧ c.tag = o.tag ∧ o.nextIndex = c.index + 1 ∧ 1 ≤ c.index ∧
    c.targetKg = o.targets.getD (c.index - 1) 0

theorem ready_of_fresh {o : Order} (hs : o.sound) (hf : o.nextIndex = 1 ∧ o.aborted = false) : o.ready := by
  obtain ⟨-, -, hlen, -⟩ := hs
  refine ⟨?_, hf.2⟩
  simp only [Order.hasLeft, hf.1, decide_eq_true_eq]
  exact hlen

theorem queueOk_nil : QueueOk [] := ⟨Nat.zero_le _, List.nodup_nil, by simp, by simp⟩

theorem QueueOk.sublist {q r : List Order} (h : QueueOk q) (hsub : r.Sublist q)
    (hfresh : ∀ o ∈ r.tail, o.nextIndex = 1 ∧ o.aborted = false) : QueueOk r :=
  ⟨hsub.length_le.trans h.length_le, h.nodup.sublist (hsub.map _), fun o ho => h.sound o (hsub.subset ho), hfresh⟩

theorem QueueOk.tail {q : List Order} (h : QueueOk q) : QueueOk q.tail :=
  h.sublist (List.tail_sublist q) fun o ho => h.fresh o (List.mem_of_mem_tail ho)

/-- R126: behind the head order every order may still be opened. -/
theorem QueueOk.tail_headReady {q : List Order} (h : QueueOk q) : q.tail = [] ∨ HeadReady q.tail := by
  cases e : q.tail with
  | nil => exact .inl rfl
  | cons o rest =>
    have ho : o ∈ q.tail := by rw [e]; exact List.mem_cons_self
    exact .inr ⟨o, rest, rfl, ready_of_fresh (h.sound o (List.mem_of_mem_tail ho)) (h.fresh o ho)⟩

/-- The head order replaced by one of the same tag. -/
theorem QueueOk.replaceHead {o o' : Order} {rest : List Order} (h : QueueOk (o :: rest)) (htag : o'.tag = o.tag)
    (hs : o'.sound) : QueueOk (o' :: rest) := by
  refine ⟨h.length_le, ?_, fun x hx => ?_, h.fresh⟩
  · have hn := h.nodup
    rw [List.map_cons] at hn ⊢
    rwa [htag]
  · rcases List.mem_cons.mp hx with rfl | hx
    · exact hs
    · exact h.sound x (List.mem_cons_of_mem _ hx)

theorem QueueOk.append {q : List Order} {o : Order} (h : QueueOk q) (hlen : q.length < 8)
    (hnew : (q.any fun x => x.tag == o.tag) = false) (hs : o.sound) (hf : o.nextIndex = 1 ∧ o.aborted = false) :
    QueueOk (q ++ [o]) := by
  refine ⟨by simp; omega, ?_, fun x hx => ?_, fun x hx => ?_⟩
  · rw [List.map_append, List.nodup_append]
    refine ⟨h.nodup, by simp, fun a ha b hb => ?_⟩
    obtain ⟨x, hx, rfl⟩ := List.mem_map.mp ha
    rw [List.map_singleton, List.mem_singleton] at hb
    subst hb
    simpa using List.any_eq_false.mp hnew x hx
  · rcases List.mem_append.mp hx with hx | hx
    · exact h.sound x hx
    · rw [List.mem_singleton.mp hx]; exact hs
  · cases q with
    | nil => simp at hx
    | cons a rest =>
      rw [List.cons_append, List.tail_cons] at hx
      rcases List.mem_append.mp hx with hx | hx
      · exact h.fresh x hx
      · rw [List.mem_singleton.mp hx]; exact hf

/-- R128: to remove the head order's tag removes the head order. -/
theorem QueueOk.filter_head {o : Order} {rest : List Order} {tag : Nat} (h : QueueOk (o :: rest)) (ht : o.tag = tag) :
    (o :: rest).filter (fun x => x.tag != tag) = rest := by
  have hn := h.nodup
  rw [List.map_cons, List.nodup_cons] at hn
  rw [List.filter_cons_of_neg (by simp [ht]), List.filter_eq_self]
  intro x hx
  have hne : x.tag ≠ o.tag := fun e => hn.1 (List.mem_map.mpr ⟨x, hx, e⟩)
  simpa [← ht] using hne

/-- R128: to remove another tag keeps the head order. -/
theorem filter_of_head_ne {o : Order} {rest : List Order} {tag : Nat} (ht : o.tag ≠ tag) :
    (o :: rest).filter (fun x => x.tag != tag) = o :: rest.filter (fun x => x.tag != tag) :=
  List.filter_cons_of_pos (by simpa using ht)

/-! ### Queue and spout state -/

namespace Spout

variable {p q : Spout} {st : ZeroStep}

@[simp] theorem giveUpAir_queue : p.giveUpAir.queue = p.queue := by unfold giveUpAir; split <;> rfl
@[simp] theorem shutGate_queue : p.shutGate.queue = p.queue := by unfold shutGate; split <;> rfl
@[simp] theorem giveUpAir_openComp : p.giveUpAir.ctl.openComp = p.ctl.openComp := by unfold giveUpAir; split <;> rfl
@[simp] theorem shutGate_openComp : p.shutGate.ctl.openComp = p.ctl.openComp := by unfold shutGate; split <;> rfl

/-- R126: the queue agrees with the state, the step and the open compartment. -/
structure Queued (p : Spout) : Prop where
  ok : QueueOk p.queue
  empty : p.ctl.state = .parked ∨ p.ctl.state = .idle → p.queue = []
  ready : p.ctl.state = .ready → HeadReady p.queue
  fromIdle : ∀ st, p.zero.step = some st → st.origin = .idle → p.queue = []
  fromReady : ∀ st, p.zero.step = some st → st.origin = .ready → HeadReady p.queue
  newest : ∀ c, p.ctl.openComp = some c → c.newestOf p.queue

theorem queueSound_iff : p.queueSound ↔ p.recordSound ∧ p.Queued :=
  ⟨fun ⟨hr, hlen, hn, hs, hf, he, hready, hi, ho, hc⟩ => ⟨hr, ⟨⟨hlen, hn, hs, hf⟩, he, hready, hi, ho, hc⟩⟩,
    fun ⟨hr, ⟨⟨hlen, hn, hs, hf⟩, he, hready, hi, ho, hc⟩⟩ => ⟨hr, hlen, hn, hs, hf, he, hready, hi, ho, hc⟩⟩

/-- What changes neither queue, state nor open compartment, nor the origin of a step. -/
theorem queued_congr (h : p.Queued)
    (hstep : ∀ st', q.zero.step = some st' → ∃ st, p.zero.step = some st ∧ st'.origin = st.origin)
    (hqueue : q.queue = p.queue := by rfl) (hstate : q.ctl.state = p.ctl.state := by rfl)
    (hcomp : q.ctl.openComp = p.ctl.openComp := by rfl) : q.Queued := by
  obtain ⟨hok, hempty, hready, hidle, hfrom, hnewest⟩ := h
  refine ⟨hqueue ▸ hok, by rw [hstate, hqueue]; exact hempty, by rw [hstate, hqueue]; exact hready, fun st' e ho => ?_,
    fun st' e ho => ?_, by rw [hcomp, hqueue]; exact hnewest⟩
  · obtain ⟨st, hs, e'⟩ := hstep st' e
    rw [hqueue]; exact hidle st hs (e' ▸ ho)
  · obtain ⟨st, hs, e'⟩ := hstep st' e
    rw [hqueue]; exact hfrom st hs (e' ▸ ho)

theorem queued_same (h : p.Queued) (hzero : q.zero.step = p.zero.step := by rfl)
    (hqueue : q.queue = p.queue := by rfl) (hstate : q.ctl.state = p.ctl.state := by rfl)
    (hcomp : q.ctl.openComp = p.ctl.openComp := by rfl) : q.Queued :=
  queued_congr h (fun st' e => ⟨st', hzero ▸ e, rfl⟩) hqueue hstate hcomp

theorem queued_unmarked (e : p.unmarked = q.unmarked) (h : p.Queued) : q.Queued := by
  have hzero : p.unmarked.zero = q.unmarked.zero := congrArg zero e
  have hqueue : p.unmarked.queue = q.unmarked.queue := congrArg queue e
  have hctl : p.unmarked.ctl = q.unmarked.ctl := congrArg ctl e
  exact queued_same h (congrArg ZeroTracker.step hzero.symm) hqueue.symm (congrArg Control.state hctl.symm)
    (congrArg Control.openComp hctl.symm)

/-- R54: in a state with a compartment open, and in FAULTED, the state says no more of the queue. -/
theorem queued_busy (hok : QueueOk p.queue) (hstep : p.zero.step = none)
    (hst : p.ctl.state ≠ .parked ∧ p.ctl.state ≠ .idle ∧ p.ctl.state ≠ .ready)
    (hnewest : ∀ c, p.ctl.openComp = some c → c.newestOf p.queue) : p.Queued :=
  ⟨hok, fun e => absurd e (by simp [hst]), fun e => absurd e hst.2.2, fun st e => (by rw [hstep] at e; cases e),
    fun st e => (by rw [hstep] at e; cases e), hnewest⟩

/-- A spout at rest that goes on to IDLE or READY. -/
theorem queued_settled (hok : QueueOk p.queue) (hstep : p.zero.step = none) (hcomp : p.ctl.openComp = none)
    (hst : p.ctl.state = .idle ∧ p.queue = [] ∨ p.ctl.state = .ready ∧ HeadReady p.queue) : p.Queued := by
  refine ⟨hok, fun e => ?_, fun e => ?_, fun st e => (by rw [hstep] at e; cases e),
    fun st e => (by rw [hstep] at e; cases e), fun c e => by rw [hcomp] at e; cases e⟩
  · rcases hst with hst | hst
    · exact hst.2
    · rw [hst.1] at e; simp at e
  · rcases hst with hst | hst
    · rw [hst.1] at e; cases e
    · exact hst.2

theorem queued_examineZeroing (h : p.Queued) : p.examineZeroing.Queued := by
  refine examineZeroing_rule h fun k hst _ => ?_
  refine ⟨h.ok, fun e => (by cases e <;> contradiction), fun e => (by cases e), fun st e ho => ?_, fun st e ho => ?_, h.newest⟩
  · cases e
    have hidle : p.ctl.state = .idle := by
      rcases hst with hst | hst
      · exact hst
      · simp [hst] at ho
    exact h.empty (.inr hidle)
  · cases e
    have hready : p.ctl.state = .ready := by
      rcases hst with hst | hst
      · simp [hst] at ho
      · exact hst
    exact h.ready hready

theorem queued_settle (hok : QueueOk p.queue) (hstep : p.zero.step = none) (hcomp : p.ctl.openComp = none)
    (hhead : p.queue = [] ∨ HeadReady p.queue) : p.settle.Queued := by
  refine queued_examineZeroing (queued_settled hok hstep hcomp ?_)
  rcases hhead with e | ⟨o, rest, e, hr⟩
  · exact .inl ⟨by simp [e], e⟩
  · exact .inr ⟨by simp [e], o, rest, e, hr⟩

/-- R72, R126: whatever the queue, moving on settles it. -/
theorem queued_moveOn (hok : QueueOk p.queue) (hstep : p.zero.step = none) (hcomp : p.ctl.openComp = none) :
    p.moveOn.Queued := by
  unfold moveOn
  split
  · next e => exact queued_settle hok hstep hcomp (.inl e)
  · next o rest e =>
    split
    · next hr => exact queued_settle hok hstep hcomp (.inr ⟨o, rest, e, hr.1, by simpa using hr.2⟩)
    · exact queued_settle (p := p.retireHead _) hok.tail hstep hcomp hok.tail_headReady

theorem queued_endStep (hs : p.zero.step = some st) (hcomp : p.ctl.openComp = none) (h : p.Queued) : p.endStep.Queued := by
  unfold endStep
  rw [hs]
  refine queued_settled h.ok rfl hcomp ?_
  cases ho : st.origin with
  | idle => exact .inl ⟨by simp [ho, Origin.state], h.fromIdle st hs ho⟩
  | ready => exact .inr ⟨by simp [ho, Origin.state], h.fromReady st hs ho⟩

theorem openComp_none_of_step (h : p.recordSound) (hs : p.zero.step = some st) : p.ctl.openComp = none := by
  obtain ⟨hstep, -, -, -, hcomp, -⟩ := h
  have hst : p.ctl.state = .zeroing := hstep.mp (by simp [hs])
  simpa [hst, SpoutState.compartmentOpen] using hcomp

theorem openComp_none (h : p.recordSound) (hst : p.ctl.state.compartmentOpen = false) : p.ctl.openComp = none := by
  obtain ⟨-, -, -, -, hcomp, -⟩ := h
  simpa [hst] using hcomp

theorem queued_giveUpAir (h : p.Queued) : p.giveUpAir.Queued := by
  unfold giveUpAir
  split
  · exact h
  · exact queued_same h
  · exact queued_same h

theorem queued_shutGate (h : p.Queued) : p.shutGate.Queued := shutGate_rule (fun _ => queued_same h) fun _ => h

/-- The queue and the open compartment keep; the state goes to one that says no more of the queue. -/
theorem queued_toBusy (h : p.Queued) (hstep : q.zero.step = none) (hqueue : q.queue = p.queue)
    (hcomp : q.ctl.openComp = p.ctl.openComp)
    (hst : q.ctl.state ≠ .parked ∧ q.ctl.state ≠ .idle ∧ q.ctl.state ≠ .ready) : q.Queued :=
  queued_busy (hqueue ▸ h.ok) hstep hst (by rw [hcomp, hqueue]; exact h.newest)

theorem recordResult_openComp (path : RecordPath) : (p.recordResult path).ctl.openComp = none :=
  recordResult_rule path (P := fun q => q.ctl.openComp = none) id fun _ _ _ => rfl

theorem recordResult_queue (path : RecordPath) : (p.recordResult path).queue = p.queue :=
  recordResult_rule path (P := fun q => q.queue = p.queue) (fun _ => rfl) fun _ _ _ => rfl

theorem recordResult_step (path : RecordPath) : (p.recordResult path).zero.step = p.zero.step :=
  recordResult_rule path (P := fun q => q.zero.step = p.zero.step) (fun _ => rfl) fun _ _ _ => rfl

theorem queued_recordResult_moveOn (path : RecordPath) (hstep : p.zero.step = none) (hok : QueueOk p.queue) :
    (p.recordResult path).moveOn.Queued :=
  queued_moveOn (by rw [recordResult_queue]; exact hok) (by rw [recordResult_step]; exact hstep) (recordResult_openComp path)

theorem queued_fault (k : FaultKind) (hok : QueueOk p.queue) : (p.fault k).Queued := by
  refine queued_busy (p := p.fault k) ?_ ?_ (by simp [fault, becomeFaulted]) fun c e => ?_
  · show QueueOk (p.dropZeroWork.recordResult .faulted).queue
    rw [recordResult_queue]; exact hok
  · show (p.dropZeroWork.recordResult .faulted).zero.step = none
    rw [recordResult_step]; rfl
  · have hnone : (p.dropZeroWork.recordResult .faulted).ctl.openComp = none := recordResult_openComp _
    have e' : (p.dropZeroWork.recordResult .faulted).ctl.openComp = some c := e
    rw [hnone] at e'
    cases e'

theorem queued_openCompartment (hr : HeadReady p.queue) (hok : QueueOk p.queue) : p.openCompartment.Queued := by
  obtain ⟨o, rest, hq, hleft, -⟩ := hr
  rw [hq] at hok
  obtain ⟨htag, htag', hlen, hlen', htargets, hcap, hcap', hlimit, hnext, -⟩ := hok.sound o List.mem_cons_self
  have hle : o.nextIndex ≤ o.targets.length := by simpa [Order.hasLeft] using hleft
  have hs : ({ o with nextIndex := o.nextIndex + 1 } : Order).sound :=
    ⟨htag, htag', hlen, hlen', htargets, hcap, hcap', hlimit, by dsimp only; omega, by dsimp only; omega⟩
  unfold openCompartment
  rw [hq]
  refine queued_busy (hok.replaceHead rfl hs) rfl (by simp [openWith]) fun c e => ?_
  cases e
  exact ⟨_, rest, rfl, rfl, rfl, hnext, rfl⟩

theorem queued_markAborted (hok : QueueOk p.queue) : QueueOk p.markAborted.queue := by
  unfold markAborted
  split
  · exact hok
  · next o rest e =>
    rw [e] at hok
    exact hok.replaceHead rfl (hok.sound o List.mem_cons_self)

theorem newest_markAborted {c : OpenCompartment} (h : c.newestOf p.queue) : c.newestOf p.markAborted.queue := by
  obtain ⟨o, rest, e, hc⟩ := h
  unfold markAborted
  rw [e]
  exact ⟨_, rest, rfl, hc⟩

theorem markAborted_ctl (p : Spout) : p.markAborted.ctl = p.ctl := by unfold markAborted; split <;> rfl
theorem markAborted_zero (p : Spout) : p.markAborted.zero = p.zero := by unfold markAborted; split <;> rfl

theorem queued_readyWhileZeroing (hr : HeadReady p.queue) (hcomp : p.ctl.openComp = none) (hok : QueueOk p.queue)
    (hst : p.ctl.state = .zeroing) : p.readyWhileZeroing.Queued := by
  unfold readyWhileZeroing
  split
  · next st hs =>
    split
    · refine ⟨hok, fun e => ?_, fun e => ?_, fun st' e ho => ?_, fun _ _ _ => hr, fun c e => ?_⟩
      · have e' : p.ctl.state = .parked ∨ p.ctl.state = .idle := e
        simp [hst] at e'
      · have e' : p.ctl.state = .ready := e
        simp [hst] at e'
      · cases e; cases ho
      · have e' : p.ctl.openComp = some c := e
        rw [hcomp] at e'; cases e'
    · exact queued_examineZeroing (queued_settled hok rfl hcomp (.inr ⟨rfl, hr⟩))
  · next hs => exact queued_examineZeroing (queued_settled hok hs hcomp (.inr ⟨rfl, hr⟩))

/-- R120: a new head order, which a spout that loads or is faulted leaves waiting. -/
theorem queued_newHead (hr : HeadReady p.queue) (hok : QueueOk p.queue) (hrec : p.recordSound)
    (hnone : ∀ c, p.ctl.openComp = some c → False) : p.newHead.Queued := by
  have hcomp : p.ctl.openComp = none := Option.eq_none_iff_forall_ne_some.mpr fun c e => hnone c e
  have hstep : p.ctl.state ≠ .zeroing → p.zero.step = none := stepSound_none hrec.1
  have hbusy : p.ctl.state ≠ .parked ∧ p.ctl.state ≠ .idle ∧ p.ctl.state ≠ .ready → p.ctl.state ≠ .zeroing → p.Queued :=
    fun hst hz => queued_busy hok (hstep hz) hst fun c e => (hnone c e).elim
  unfold newHead
  split
  case h_1 hst => exact queued_examineZeroing (queued_settled hok (hstep (by simp [hst])) hcomp (.inr ⟨rfl, hr⟩))
  case h_2 hst => exact queued_examineZeroing (queued_settled hok (hstep (by simp [hst])) hcomp (.inr ⟨rfl, hr⟩))
  case h_3 hst => exact queued_readyWhileZeroing hr hcomp hok hst
  case h_4 hst => exact queued_same (hbusy (by simp [hst]) (by simp [hst]))
  case h_5 hst => exact queued_settled hok (hstep (by simp [hst])) hcomp (.inr ⟨hst, hr⟩)
  all_goals next hst => exact hbusy (by simp [hst]) (by simp [hst])

theorem queued_join {o : Order} (hnew : (p.queue.any fun x => x.tag == o.tag) = false) (hlen : p.queue.length < 8)
    (hs : o.sound) (hf : o.nextIndex = 1 ∧ o.aborted = false) (hrec : p.recordSound) (h : p.Queued) : (p.join o).Queued := by
  have hok := h.ok.append hlen hnew hs hf
  unfold join
  dsimp only
  split
  · next he =>
    have hnil : p.queue = [] := List.isEmpty_iff.mp he
    refine queued_newHead (p := { p with queue := p.queue ++ [o] }) ⟨o, [], by simp [hnil], ready_of_fresh hs hf⟩ hok hrec
      fun c e => ?_
    obtain ⟨o', rest, e', -⟩ := h.newest c e
    rw [hnil] at e'
    cases e'
  · next he =>
    have hhead : ∀ {P : Order → Prop}, (∃ o' rest, p.queue = o' :: rest ∧ P o') → ∃ o' rest, p.queue ++ [o] = o' :: rest ∧ P o' :=
      fun ⟨o', rest, e, hP⟩ => ⟨o', rest ++ [o], by rw [e]; rfl, hP⟩
    have hne : p.queue = [] → False := fun e => he (by rw [e]; rfl)
    exact ⟨hok, fun e => (hne (h.empty e)).elim, fun e => hhead (h.ready e), fun st e ho => (hne (h.fromIdle st e ho)).elim,
      fun st e ho => hhead (h.fromReady st e ho), fun c e => hhead (h.newest c e)⟩

/-- R128: the removal of an order behind the head order. -/
theorem queued_removeOrder {tag : Nat} (hb : p.headBears tag = false) (h : p.Queued) : (p.removeOrder tag).Queued := by
  cases hq : p.queue with
  | nil => exact queued_same h (hqueue := by simp [removeOrder, raise, hq])
  | cons o rest =>
    have ht : o.tag ≠ tag := by simpa [headBears, hq] using hb
    have hqueue : (p.removeOrder tag).queue = o :: rest.filter (fun x => x.tag != tag) := by
      show p.queue.filter _ = _
      rw [hq, filter_of_head_ne ht]
    have hhead : ∀ {P : Order → Prop}, (∃ o' rest', p.queue = o' :: rest' ∧ P o') →
        ∃ o' rest', (p.removeOrder tag).queue = o' :: rest' ∧ P o' := fun ⟨o', rest', e, hP⟩ => by
      rw [hq] at e
      cases e
      exact ⟨o, _, hqueue, hP⟩
    have hne : p.queue = [] → False := fun e => by rw [hq] at e; cases e
    refine ⟨?_, fun e => (hne (h.empty e)).elim, fun e => hhead (h.ready e), fun st e ho => (hne (h.fromIdle st e ho)).elim,
      fun st e ho => hhead (h.fromReady st e ho), fun c e => hhead (h.newest c e)⟩
    rw [hqueue]
    have hok := h.ok
    rw [hq] at hok
    exact hok.sublist (List.filter_sublist.cons_cons o) fun x hx => hok.fresh x (List.mem_of_mem_filter hx)

/-- R128, R129: the head order removed. -/
theorem removeOrder_queue {tag : Nat} (hb : p.headBears tag = true) (hok : QueueOk p.queue) :
    (p.removeOrder tag).queue = p.queue.tail := by
  cases hq : p.queue with
  | nil => simp [headBears, hq] at hb
  | cons o rest =>
    rw [hq] at hok
    show p.queue.filter _ = _
    rw [hq, hok.filter_head (by simpa [headBears, hq] using hb)]
    rfl

theorem queued_headLeftZeroing (hcomp : p.ctl.openComp = none) (hst : p.ctl.state = .zeroing) (hok : QueueOk p.queue)
    (hhead : p.queue = [] ∨ HeadReady p.queue) : p.headLeftZeroing.Queued := by
  have horigin : ∀ st, p.headLeftZeroing.zero.step = some st → st.origin = if p.queue.isEmpty then .idle else .ready :=
    fun st e => by
      obtain ⟨st', -, rfl⟩ := Option.map_eq_some_iff.mp e
      rfl
  refine ⟨hok, fun e => ?_, fun e => ?_, fun st e ho => ?_, fun st e ho => ?_, fun c e => ?_⟩
  · have e' : p.ctl.state = .parked ∨ p.ctl.state = .idle := e
    simp [hst] at e'
  · have e' : p.ctl.state = .ready := e
    simp [hst] at e'
  · rw [horigin st e] at ho
    split at ho
    · next he => exact List.isEmpty_iff.mp he
    · cases ho
  · rw [horigin st e] at ho
    rcases hhead with hnil | hr
    · simp [hnil] at ho
    · exact hr
  · have e' : p.ctl.openComp = some c := e
    rw [hcomp] at e'; cases e'

theorem queued_cancelHead {tag : Nat} (hb : p.headBears tag = true) (hc : p.cancelHead tag = some q) (hrec : p.recordSound)
    (h : p.Queued) : q.Queued := by
  have hqueue := removeOrder_queue hb h.ok
  have hok : QueueOk (p.removeOrder tag).queue := by rw [hqueue]; exact h.ok.tail
  have hhead : (p.removeOrder tag).queue = [] ∨ HeadReady (p.removeOrder tag).queue := by
    rw [hqueue]; exact h.ok.tail_headReady
  unfold cancelHead at hc
  split at hc <;> cases hc
  · next hst =>
    have hstep : p.zero.step = none := stepSound_none hrec.1 (by simp [hst])
    have hcomp : p.ctl.openComp = none := openComp_none hrec (by rw [hst]; rfl)
    exact queued_settle (p := (p.removeOrder tag).clearProceed) hok hstep hcomp hhead
  · next hst =>
    have hcomp : p.ctl.openComp = none := openComp_none hrec (by rw [hst]; rfl)
    exact queued_headLeftZeroing (p := p.removeOrder tag) hcomp hst hok hhead
  · next hst =>
    have hcomp : p.ctl.openComp = none := openComp_none hrec (by rw [hst]; rfl)
    have hst' : p.ctl.state ≠ .parked ∧ p.ctl.state ≠ .idle ∧ p.ctl.state ≠ .ready := by simp [hst]
    have hstep : p.zero.step = none := stepSound_none hrec.1 (by simp [hst])
    exact queued_busy (p := { p.removeOrder tag with reportDue := true }) hok hstep hst'
      fun c e => by
        have e' : p.ctl.openComp = some c := e
        rw [hcomp] at e'; cases e'

theorem word16At_le (bs : List Byte) (i : Nat) : word16At bs i ≤ 65535 := by
  have h0 := (bs.getD i 0).isLt
  have h1 := (bs.getD (i + 1) 0).isLt
  unfold word16At byteAt
  omega

theorem clampFlowLimit_mem {n f : Nat} (h : clampFlowLimit n = some f) : 500 ≤ f ∧ f ≤ 20000 := by
  unfold clampFlowLimit at h
  split at h <;> cases h
  exact clamp_mem (by omega) n

/-- R119: every value of the stored order has been brought into its range. -/
theorem enqueueOrder_sound {ps : List Byte} (htag : 1 ≤ word16At ps 1) (hlo : 1 ≤ byteAt ps 3) (hhi : byteAt ps 3 ≤ 6) :
    (enqueueOrder ps).sound := by
  have hlen : (enqueueOrder ps).targets.length = byteAt ps 3 := by simp [enqueueOrder, enqueueTargets]
  have hcap := clamp_mem (show 100 ≤ 1000 by omega) (enqueueCap ps)
  refine ⟨htag, word16At_le ps 1, by rw [hlen]; exact hlo, by rw [hlen]; exact hhi, fun t ht => ?_, hcap.1, hcap.2,
    fun f hf => ?_, le_refl 1, by rw [hlen]; show 1 ≤ _; omega⟩
  · obtain ⟨v, -, rfl⟩ := List.mem_map.mp ht
    exact clamp_mem (by omega) v
  · exact clampFlowLimit_mem hf

end Spout

namespace Spout

variable {p q : Spout}

theorem queued_takeSample (raw : Nat) (h : p.Queued) : (p.takeSample raw).Queued :=
  queued_congr h fun st' e => by
    obtain ⟨st, hs, rfl⟩ := Option.map_eq_some_iff.mp e
    exact ⟨st, hs, rfl⟩

theorem queued_setParam (r : SpoutParam) (v : Nat) (hrec : p.recordSound) (h : p.Queued) : (p.setParam r v).Queued := by
  cases r <;> try exact queued_same h
  case minOpening =>
    simp only [setParam, setMinOpening]
    split <;> exact queued_same h
  case zeroMode =>
    have hz : ∀ b, ({ p with zero := p.zero.changeCadence (cadenceOfCode v) b } : Spout).Queued := fun b =>
      queued_same h (by unfold ZeroTracker.changeCadence; split <;> rfl)
    have hstep : ∀ b, (p.zero.changeCadence (cadenceOfCode v) b).step = p.zero.step := fun b => by
      unfold ZeroTracker.changeCadence; split <;> rfl
    simp only [setParam, setCadence]
    split
    · exact h
    · apply queued_examineZeroing
      unfold dropNormalStep
      split
      · next st hs =>
        have hcomp : p.ctl.openComp = none := openComp_none_of_step hrec ((hstep _).symm.trans hs)
        split
        · exact queued_endStep hs hcomp (hz _)
        · exact hz _
      · exact hz _

/-- R69, R70: the head order marked aborted, in a state that says no more of the queue. -/
theorem queued_aborted (h : p.Queued) (hstep : q.zero.step = none) (hqueue : q.queue = p.markAborted.queue)
    (hcomp : q.ctl.openComp = p.ctl.openComp)
    (hst : q.ctl.state ≠ .parked ∧ q.ctl.state ≠ .idle ∧ q.ctl.state ≠ .ready) : q.Queued :=
  queued_busy (hqueue ▸ queued_markAborted h.ok) hstep hst fun c e => by
    rw [hqueue]; exact newest_markAborted (h.newest c (hcomp ▸ e))

theorem queued_settledEmpty (hqueue : p.queue = []) (hstep : p.zero.step = none) (hcomp : p.ctl.openComp = none)
    (hst : p.ctl.state = .parked ∨ p.ctl.state = .idle) : p.Queued :=
  ⟨hqueue ▸ queueOk_nil, fun _ => hqueue, fun e => by simp [e] at hst, fun _ _ _ => hqueue,
    fun st e => (by rw [hstep] at e; cases e), fun c e => by rw [hcomp] at e; cases e⟩

/-- R59: only a spout with an empty queue is parked. -/
theorem queued_park (hst : p.ctl.state = .idle ∨ (p.ctl.state = .zeroing ∧ ∀ st, p.zero.step = some st → st.origin = .idle))
    (hrec : p.recordSound) (h : p.Queued) : p.park.Queued := by
  have hempty : p.queue = [] := by
    rcases hst with e | ⟨e, ho⟩
    · exact h.empty (.inr e)
    · obtain ⟨st, hs⟩ := Option.isSome_iff_exists.mp (hrec.1.mpr e)
      exact h.fromIdle st hs (ho st hs)
  have hcomp : p.ctl.openComp = none :=
    openComp_none hrec (by rcases hst with e | ⟨e, -⟩ <;> rw [e] <;> rfl)
  exact queued_settledEmpty hempty rfl hcomp (.inl rfl)

theorem queued_zeroNow (hst : p.ctl.state = .idle ∨ p.ctl.state = .ready) (h : p.Queued) : p.zeroNow.Queued := by
  have hstart : ∀ (z : ZeroTracker) k, (({ p with zero := z } : Spout).startStep k).Queued := fun z k => by
    refine ⟨h.ok, fun e => (by cases e <;> contradiction), fun e => (by cases e), fun st e ho => ?_, fun st e ho => ?_, h.newest⟩
    · cases e
      rcases hst with hst | hst
      · exact h.empty (.inr hst)
      · simp [hst] at ho
    · cases e
      rcases hst with hst | hst
      · simp [hst] at ho
      · exact h.ready hst
  unfold zeroNow
  split
  · exact hstart _ _
  · exact hstart _ _

end Spout

/-! ### Every change of a spout's record -/

theorem keeps_queueSound (s : State) : Keeps s fun _ p => p.recordSound ∧ p.Queued := by
  have K := keeps_recordSound s
  have hbusyStep : ∀ {p : Spout} {st : SpoutState}, p.recordSound → p.ctl.state = st → st ≠ .zeroing → p.zero.step = none :=
    fun hr hst hne => stepSound_none hr.1 (by rw [hst]; exact hne)
  exact {
    marked := fun i p q e h => ⟨K.marked i p q e h.1, Spout.queued_unmarked e h.2⟩
    takeGrant := fun i p hw h => ⟨K.takeGrant i p hw h.1, Spout.queued_same h.2⟩
    openGate := fun i p hst hh h => by
      have hne : (p.ctl.resumePhase.getD .coarse).state ≠ .parked ∧ (p.ctl.resumePhase.getD .coarse).state ≠ .idle ∧
          (p.ctl.resumePhase.getD .coarse).state ≠ .ready := by
        cases p.ctl.resumePhase.getD .coarse <;> simp [Phase.state]
      exact ⟨K.openGate i p hst hh h.1, Spout.queued_toBusy h.2 (hbusyStep (p := p) h.1 hst (by simp)) rfl rfl hne⟩
    held := fun i p r hst h => by
      have hstep : p.zero.step = none := stepSound_none h.1.1 fun e => by simp [e, SpoutState.gateOpen] at hst
      exact ⟨K.held i p r hst h.1, Spout.queued_toBusy (Spout.queued_giveUpAir (Spout.queued_shutGate h.2))
        (by simpa [Spout.becomeHeld] using hstep) rfl rfl (by simp [Spout.becomeHeld])⟩
    tailing := fun i p r hst h => by
      have hstep : p.zero.step = none := stepSound_none h.1.1 fun e => by simp [e, SpoutState.gateOpen] at hst
      exact ⟨K.tailing i p r hst h.1, Spout.queued_toBusy (Spout.queued_giveUpAir (Spout.queued_shutGate h.2))
        (by simpa [Spout.becomeTailing] using hstep) rfl rfl (by simp [Spout.becomeTailing])⟩
    fault := fun i p k hp hf h =>
      ⟨K.fault i p k hp hf h.1, Spout.queued_fault k (Spout.queued_giveUpAir (Spout.queued_shutGate h.2)).ok⟩
    backToArmed := fun i p hst h =>
      ⟨K.backToArmed i p hst h.1, Spout.queued_toBusy (Spout.queued_giveUpAir h.2)
        (by simpa using hbusyStep (p := p) h.1 hst (by simp)) rfl rfl (by simp)⟩
    enterAwait := fun i p hst h =>
      ⟨K.enterAwait i p hst h.1, Spout.queued_toBusy h.2 (hbusyStep (p := p) h.1 hst (by simp)) rfl rfl (by simp [Spout.becomeWaiter])⟩
    acceptForce := fun i p seq h => ⟨K.acceptForce i p seq h.1, Spout.queued_same h.2⟩
    countMissed := fun i p h => ⟨K.countMissed i p h.1, Spout.queued_same h.2⟩
    starveChannel := fun i p h => ⟨K.starveChannel i p h.1, Spout.queued_same h.2⟩
    workGood := fun i p raw hs hraw h => ⟨K.workGood i p raw hs hraw h.1, by
      obtain ⟨range, alerts, e⟩ := Logs.watchRange_chan raw hs p
      unfold Spout.workGood
      rw [e]
      exact Spout.queued_same h.2⟩
    workFill := fun i p h => ⟨K.workFill i p h.1, Spout.queued_same h.2⟩
    countDuration := fun i p h => ⟨K.countDuration i p h.1, by
      unfold Spout.countDuration; split <;> exact Spout.queued_same h.2⟩
    enterFineBand := fun i p hst h =>
      ⟨K.enterFineBand i p hst h.1, Spout.queued_toBusy h.2 (hbusyStep (p := p) h.1 hst (by simp)) rfl rfl (by simp [Spout.enterFineBand])⟩
    floodDrop := fun i p hst h =>
      ⟨K.floodDrop i p hst h.1, Spout.queued_toBusy h.2 (hbusyStep (p := p) h.1 hst (by simp)) rfl rfl (by simp [Spout.floodDrop])⟩
    tickFlood := fun i p hg hd hc h => ⟨K.tickFlood i p hg hd hc h.1, Spout.queued_same h.2⟩
    countPacing := fun i p h => ⟨K.countPacing i p h.1, by
      unfold Spout.countPacing
      split
      · exact Spout.pace_rule (fun _ => Spout.queued_same h.2) fun _ _ _ => Spout.queued_same h.2
      · exact Spout.queued_same h.2⟩
    pace := fun i p h =>
      ⟨K.pace i p h.1, Spout.pace_rule (fun _ => Spout.queued_same h.2) fun _ _ _ => Spout.queued_same h.2⟩
    tickAirLost := fun i p low hg hl h => ⟨K.tickAirLost i p low hg hl h.1, Spout.queued_same h.2⟩
    tickPressure := fun i p hst hr h => ⟨K.tickPressure i p hst hr h.1, Spout.queued_same h.2⟩
    tickStuck := fun i p o ho h => ⟨K.tickStuck i p o ho h.1, Spout.queued_same h.2⟩
    countTail := fun i p hst h => ⟨K.countTail i p hst h.1, by
      have hend := fun b => Spout.queued_recordResult_moveOn (.tail b) (hbusyStep (p := p) h.1 hst (by simp)) h.2.ok
      unfold Spout.countTail
      split
      · exact hend _
      · split
        · exact hend _
        · exact Spout.queued_same h.2⟩
    endTail := fun i p b hst h =>
      ⟨K.endTail i p b hst h.1, Spout.queued_recordResult_moveOn (.tail b) (hbusyStep (p := p) h.1 hst (by simp)) h.2.ok⟩
    countReport := fun i p h => ⟨K.countReport i p h.1, by
      unfold Spout.countReport; split <;> exact Spout.queued_same h.2⟩
    reportExpires := fun i p h => ⟨K.reportExpires i p h.1, Spout.queued_same h.2⟩
    oweStep := fun i p h => ⟨K.oweStep i p h.1, Spout.queued_same h.2⟩
    tickDue := fun i p hst hd h => ⟨K.tickDue i p hst hd h.1, Spout.queued_same h.2⟩
    endRetry := fun i p h => ⟨K.endRetry i p h.1, Spout.queued_same h.2⟩
    tickRetry := fun i p he h => ⟨K.tickRetry i p he h.1, Spout.queued_same h.2⟩
    examineZeroing := fun i p h => ⟨K.examineZeroing i p h.1, Spout.queued_examineZeroing h.2⟩
    abandonStep := fun i p h => ⟨K.abandonStep i p h.1, by
      unfold Spout.abandonStep
      split
      · next st hs => exact Spout.queued_same (Spout.queued_endStep hs (Spout.openComp_none_of_step h.1 hs) h.2)
      · exact h.2⟩
    takeSample := fun i p raw st hs hraw ht h => ⟨K.takeSample i p raw st hs hraw ht h.1, Spout.queued_takeSample raw h.2⟩
    completeNormal := fun i p st raw hs hk hraw ht h => ⟨K.completeNormal i p st raw hs hk hraw ht h.1, by
      have hcomp := Spout.openComp_none_of_step h.1 hs
      have hst := step_takeSample raw hs
      have hq := Spout.queued_takeSample raw h.2
      exact Spout.completeNormal_rule (fun _ => Spout.queued_endStep hst hcomp (Spout.queued_same hq))
        (fun _ => Spout.queued_endStep hst hcomp (Spout.queued_same hq))
        fun _ _ => Spout.queued_endStep hst hcomp (Spout.queued_same hq)⟩
    completeZeroNow := fun i p st raw hs hk hraw ht h => ⟨K.completeZeroNow i p st raw hs hk hraw ht h.1, by
      have hcomp := Spout.openComp_none_of_step h.1 hs
      have hst := step_takeSample raw hs
      have hq := Spout.queued_takeSample raw h.2
      exact Spout.judge_rule (P := fun q => q.endStep.Queued) (fun _ => Spout.queued_endStep hst hcomp (Spout.queued_same hq))
        fun _ => Spout.queued_endStep hst hcomp (Spout.queued_same hq)⟩
    completeMakeup := fun i p st raw hs hk hraw ht h => ⟨K.completeMakeup i p st raw hs hk hraw ht h.1, by
      have hcomp := Spout.openComp_none_of_step h.1 hs
      exact Spout.queued_endStep (p := { p.takeSample raw with zero := _ }) (step_takeSample raw hs) hcomp
        (Spout.queued_same (Spout.queued_takeSample raw h.2))⟩
    openReady := fun i p hst h => ⟨K.openReady i p hst h.1, Spout.queued_openCompartment (h.2.ready hst) h.2.ok⟩
    openZeroing := fun i p st hst hs ho h =>
      ⟨K.openZeroing i p st hst hs ho h.1, Spout.queued_openCompartment (h.2.fromReady st hs ho) h.2.ok⟩
    setParam := fun i q v hq h => ⟨K.setParam i q v hq h.1, Spout.queued_setParam q _ h.1 h.2⟩
    written := fun i b v hb hv h => ⟨K.written i b v hb hv h.1, Spout.queued_same h.2⟩
    failSwitch := fun i he h => ⟨K.failSwitch i he h.1, Spout.queued_same h.2⟩
    deferSwitch := fun i ht ho h => ⟨K.deferSwitch i ht ho h.1, Spout.queued_same h.2⟩
    switchNow := fun i ht ho h => ⟨K.switchNow i ht ho h.1, Spout.queued_same h.2⟩
    mapForce := fun i hst h => ⟨K.mapForce i hst h.1, Spout.queued_same h.2⟩
    join := fun i ps hconf hnew hlen hpool htag hlo hhi h => ⟨K.join i ps hconf hnew hlen hpool htag hlo hhi h.1,
      Spout.queued_join hnew hlen (Spout.enqueueOrder_sound htag hlo hhi) ⟨rfl, rfl⟩ h.1 h.2⟩
    removeOrder := fun i tag hb h => ⟨K.removeOrder i tag hb h.1, Spout.queued_removeOrder hb h.2⟩
    cancelHead := fun i tag q hb hc h => ⟨K.cancelHead i tag q hb hc h.1, Spout.queued_cancelHead hb hc h.1 h.2⟩
    markProceed := fun i hst h => ⟨K.markProceed i hst h.1, Spout.queued_same h.2⟩
    endAborted := fun i hst h => ⟨K.endAborted i hst h.1, by
      have hstep : (s.spout i).zero.step = none := stepSound_none h.1.1 fun e => by simp [e] at hst
      exact Spout.queued_recordResult_moveOn .aborted (by simpa [Spout.markAborted_zero] using hstep)
        (by simpa using Spout.queued_markAborted h.2.ok)⟩
    abortLoading := fun i hst h => ⟨K.abortLoading i hst h.1, by
      have hstep : (s.spout i).zero.step = none := stepSound_none h.1.1 fun e => by simp [e, SpoutState.gateOpen] at hst
      exact Spout.queued_aborted h.2 (by simpa [Spout.becomeTailing, Spout.markAborted_zero] using hstep)
        (by simp [Spout.becomeTailing]) (by simp [Spout.becomeTailing, Spout.markAborted_ctl]) (by simp [Spout.becomeTailing])⟩
    abortTail := fun i hst h => ⟨K.abortTail i hst h.1, by
      have hstep := hbusyStep h.1 hst (by simp)
      exact Spout.queued_aborted h.2 (by simpa [Spout.abortTail, Spout.markAborted_zero] using hstep) rfl
        (by simp [Spout.abortTail, Spout.markAborted_ctl]) (by simp [Spout.abortTail, hst])⟩
    abortReady := fun i hst h => ⟨K.abortReady i hst h.1, by
      have hstep := hbusyStep h.1 hst (by simp)
      have hcomp := Spout.openComp_none h.1 (by rw [hst]; rfl)
      exact Spout.queued_settle (p := ((s.spout i).retireHead 2).clearProceed) h.2.ok.tail hstep hcomp h.2.ok.tail_headReady⟩
    resumeWaits := fun i hst h => ⟨K.resumeWaits i hst h.1, by
      have hstep := hbusyStep h.1 hst (by simp)
      exact Spout.queued_toBusy h.2 hstep rfl rfl (by simp [Spout.leaveHeld, Spout.becomeWaiter])⟩
    resumeArmed := fun i hst h => ⟨K.resumeArmed i hst h.1, by
      have hstep := hbusyStep h.1 hst (by simp)
      exact Spout.queued_toBusy h.2 (by simpa [Spout.leaveHeld] using hstep) (by simp [Spout.leaveHeld])
        (by simp [Spout.leaveHeld]) (by simp [Spout.leaveHeld])⟩
    resumeHeld := fun i hst h => ⟨K.resumeHeld i hst h.1, by
      have hstep := hbusyStep h.1 hst (by simp)
      exact Spout.queued_toBusy h.2 (by simpa [Spout.leaveHeld, Spout.becomeHeld] using hstep)
        (by simp [Spout.leaveHeld, Spout.becomeHeld]) (by simp [Spout.leaveHeld, Spout.becomeHeld])
        (by simp [Spout.leaveHeld, Spout.becomeHeld])⟩
    park := fun i hst h => ⟨K.park i hst h.1, Spout.queued_park hst h.1 h.2⟩
    unpark := fun i hst hconf h => ⟨K.unpark i hst hconf h.1, by
      have hstep := hbusyStep h.1 hst (by simp)
      have hcomp := Spout.openComp_none h.1 (by rw [hst]; rfl)
      exact Spout.queued_examineZeroing (Spout.queued_settled (p := ({ s.spout i with zero := _ } : Spout).enter .idle)
        h.2.ok hstep hcomp (.inl ⟨rfl, h.2.empty (.inl hst)⟩))⟩
    clearFault := fun i hst h => ⟨K.clearFault i hst h.1, by
      have hstep := hbusyStep h.1 hst (by simp)
      have hcomp := Spout.openComp_none h.1 (by rw [hst]; rfl)
      exact Spout.queued_moveOn (p := { s.spout i with ctl := _ }) h.2.ok hstep hcomp⟩
    zeroNow := fun i hst h => ⟨K.zeroNow i hst h.1, Spout.queued_zeroNow hst h.2⟩
    restart := fun i p h => ⟨K.restart i p h.1, Spout.queued_settledEmpty rfl rfl rfl (.inl rfl)⟩
    reset := fun i => ⟨K.reset i, Spout.queued_settledEmpty rfl rfl rfl (.inl rfl)⟩ }

/-! ### The pool -/

variable {s t : State} {i : SpoutId}

theorem heldOrders_eq (s : State) : s.heldOrders =
    (s.spout 0).queue.length + ((s.spout 1).queue.length + ((s.spout 2).queue.length + (s.spout 3).queue.length)) := by
  simp [State.heldOrders, spoutIds]

theorem heldOrders_congr (h : ∀ i, (t.spout i).queue = (s.spout i).queue) : t.heldOrders = s.heldOrders := by
  simp only [State.heldOrders, h]

theorem heldOrders_upd_le {f : Spout → Spout} {n : Nat} (h : (f (s.spout i)).queue.length ≤ (s.spout i).queue.length + n) :
    (s.upd i f).heldOrders ≤ s.heldOrders + n := by
  simp only [heldOrders_eq, spout_upd]
  fin_cases i <;> simp_all <;> omega

theorem queue_of_regranted {p q : Spout} (h : p.regranted q) : q.queue = p.queue := by
  rcases h with rfl | ⟨-, rfl | ⟨-, rfl⟩⟩ <;> rfl

theorem heldOrders_grantDecision : (grantDecision s).heldOrders = s.heldOrders :=
  heldOrders_congr fun _ => queue_of_regranted (grantDecision_regrants s _)

theorem heldOrders_releaseAir : (releaseAir i s).heldOrders ≤ s.heldOrders := by
  have hgive : (s.upd i Spout.giveUpAir).heldOrders ≤ s.heldOrders + 0 := heldOrders_upd_le (by simp)
  unfold releaseAir
  dsimp only
  split
  · rw [heldOrders_grantDecision]; exact hgive
  · exact hgive

theorem heldOrders_noteAccepted (s : State) : (noteAccepted s).heldOrders = s.heldOrders := by
  cases hs : s.silent with
  | false => rw [noteAccepted_of_not_silent hs]; rfl
  | true =>
    by_cases hr : ∃ i, s.awoken.releasable i = true
    · rw [noteAccepted_of_exists hs hr, heldOrders_grantDecision]
      refine heldOrders_congr fun i => ?_
      by_cases hi : s.awoken.releasable i = true
      · rw [allJoined_spout_of_releasable hi]; rfl
      · rw [allJoined_spout_of_not_releasable hi]; rfl
    · rw [noteAccepted_of_none hs (not_exists.mp hr)]; rfl

/-- R115: the pool holds no more than 16 orders. -/
def State.pooled (s : State) : Prop := s.heldOrders ≤ 16

theorem pooled_noteAccepted (h : s.pooled) : (noteAccepted s).pooled := (heldOrders_noteAccepted s).trans_le h

theorem pooled_moves : SpoutMoves State.pooled where
  upd u i _ hs h := (heldOrders_upd_le (n := 0) hs.2).trans h
  release _ _ h := heldOrders_releaseAir.trans h
  ask u i h := by
    have hw : (u.upd i Spout.becomeWaiter).heldOrders ≤ u.heldOrders + 0 := heldOrders_upd_le (by simp [Spout.becomeWaiter])
    exact (heldOrders_grantDecision.le.trans hw).trans h
  free _ _ h := h

theorem pooled_acts : Acts State.pooled where
  toSpoutMoves := pooled_moves
  silenceK _ _ _ h := h
  grantLower _ _ _ _ h := h
  grantRaise _ _ _ _ h := heldOrders_grantDecision.trans_le h
  address _ _ _ h := h
  clearCounters _ ls h := by rw [clearCounters_eq]; exact h
  window _ _ _ _ _ h := h
  cursor _ _ _ _ _ h := h
  closeWindow _ h := h
  mapLane _ _ _ _ _ _ _ h := h
  chain _ _ _ h := h
  join u i o hlt h := (heldOrders_upd_le (n := 1) (Spout.join_place o).2).trans hlt

theorem pooled_emptied (h : ∀ i, (s.spout i).queue = []) : s.pooled := by
  show s.heldOrders ≤ 16
  simp [heldOrders_eq, h]

theorem pooled_carries : Carries State.pooled State.pooled where
  toSpoutMoves := pooled_moves
  lane _ _ _ _ h := h
  framing _ h := h
  toPlant _ run h := by unfold passToPlant; split <;> exact h
  silent _ h := h
  silenceMark _ _ h := h
  acts := pooled_acts
  taken _ _ _ h := h
  replied u _ _ h := pooled_noteAccepted (s := u) h
  restarting u _ _ _ _ h := pooled_noteAccepted (s := { u with restartPending := true }) h
  crc _ h := h
  requestOverrun _ h := h
  toField _ run h := by unfold passToField; split <;> exact h
  servePlant _ h := servePlant_rule h (fun _ _ _ _ => h) (fun _ _ _ _ => h) fun i f _ _ _ _ _ hf =>
    (heldOrders_upd_le (i := i) (n := 0) (hf _).2).trans h
  sendField _ _ _ _ h := h
  freeField _ h := h
  endPlant u h := by
    unfold endPlantFrame
    split
    · exact pooled_emptied fun i => by rw [restartNow_spout]; rfl
    · exact h
    · exact h
  unmapLane _ _ h := h
  powerOn u _ := pooled_emptied fun i => by rw [powerOn_spout]; rfl

/-! ### The results rings -/

/-- R91, R130: a ring of at most eight results, whose numbers run up to the one before `n`. -/
def RingSound (ring : List Result) (n : Byte) : Prop :=
  ring.length ≤ 8 ∧ ∀ (k : Nat) (r : Result), ring.reverse[k]? = some r → r.number = n - 1 - BitVec.ofNat 8 k

/-- R130: the newest end is the placed record, and the older ones follow in their order. -/
theorem placeResult_reverse (ring : List Result) (r : Result) (h : ring.length ≤ 8) :
    (placeResult ring r).length ≤ 8 ∧ (placeResult ring r).reverse = r :: ring.reverse.take 7 := by
  unfold placeResult
  split
  · next hlt =>
    exact ⟨by simp; omega, by rw [List.reverse_append, List.take_of_length_le (by simp; omega)]; rfl⟩
  · refine ⟨by simp; omega, ?_⟩
    rw [List.reverse_append, List.reverse_drop, show ring.length - (ring.length - 7) = 7 by omega]
    rfl

theorem ringSound_placeResult {ring : List Result} {n : Byte} {r : Result} (hr : r.number = n) (h : RingSound ring n) :
    RingSound (placeResult ring r) (n + 1) := by
  obtain ⟨hlen, hnumber⟩ := h
  obtain ⟨hlen', hrev⟩ := placeResult_reverse ring r hlen
  refine ⟨hlen', fun k x hx => ?_⟩
  rw [hrev] at hx
  cases k with
  | zero =>
    cases hx
    rw [hr]
    simp
  | succ k =>
    rw [List.getElem?_cons_succ] at hx
    have hx' : ring.reverse[k]? = some x := by
      rw [List.getElem?_take] at hx
      split at hx
      · exact hx
      · cases hx
    rw [hnumber k x hx']
    bv_omega

theorem logs_ringSound : Logs fun _ ring n => RingSound ring n where
  recorded _ _ _ _ hr h := ringSound_placeResult hr h
  sequence _ _ _ _ h := h
  run _ _ _ _ _ h := h
  marks _ _ _ _ _ _ h := h
  emptied _ _ _ h := h
  lastGood _ _ _ _ _ h := h
  entered _ _ _ _ _ h := h
  integrated _ _ _ _ h := h
  mapped _ _ _ h := h
  reset := ⟨Nat.zero_le _, fun k r hr => by simp at hr⟩

end Sys2Proof.Machine

namespace Sys2Proof.Settled

open Sys2Proof.Machine

/-- Settles O12: an order joins behind the queue and leaves it at the head or by its tag, so that only the head has been begun;
the checks of ENQUEUE bound the queues and the pool; each record is placed with the next number. -/
theorem ordersKept : Obligations.OrdersKept := by
  refine ⟨fun s t h he i => ?_, fun s t h he => ?_⟩
  · exact Spout.queueSound_iff.mpr (step_keeps (P := fun _ p => p.recordSound ∧ p.Queued) keeps_queueSound
      (fun i => Spout.queueSound_iff.mp (h i)) he i)
  · obtain ⟨hpool, hring⟩ := h
    exact ⟨step_carries pooled_carries id (fun _ h => h) hpool he,
      step_keeps (P := fun _ p => p.logs fun _ ring n => RingSound ring n) logs_ringSound.keeps hring he⟩

end Sys2Proof.Settled
end

section
/-! PROOFS. The link ports stay within bounds (R159, R163, R164, R167, R173, R184), the silence timer stands below its timeout
(R170, R171), no line idles with something to send (R165, R166), and the settled statement about them. -/

set_option Elab.async false

namespace Sys2Proof.Machine

variable {s t : State} {i : SpoutId}

/-! ### The FIFOs, the port counters, the address and the RESTART's response -/

theorem linkSound_of_device {u v : State} (hd : v.device = u.device) (h : u.linkSound) : v.linkSound := by
  show v.device.linkSound
  rw [hd]
  exact h

theorem linkSound_moves : SpoutMoves State.linkSound := SpoutMoves.of_device fun _ _ => linkSound_of_device

/-- R167, R184: an accepted request finds room for its response, and no restart pending. -/
def State.taking (s : State) : Prop := s.linkSound ∧ s.respFifo.length < 4 ∧ s.restartPending = false

theorem taking_of_device {u v : State} (hd : v.device = u.device) (h : u.taking) : v.taking := by
  show v.device.taking
  rw [hd]
  exact h

theorem taking_acts : Acts State.taking where
  toSpoutMoves := SpoutMoves.of_device fun _ _ => taking_of_device
  silenceK _ _ _ h := h
  grantLower _ _ _ _ h := h
  grantRaise _ _ _ _ h := taking_of_device (grantDecision_device _) h
  address _ a ha h := by
    obtain ⟨⟨hplant, hfield, hresp, hcrc, hframing, hoverrun, hrequest, -, hmarker⟩, hroom⟩ := h
    exact ⟨⟨hplant, hfield, hresp, hcrc, hframing, hoverrun, hrequest, ha.trans (by omega), hmarker⟩, hroom⟩
  clearCounters _ ls h := by
    obtain ⟨⟨hplant, hfield, hresp, -, -, -, -, haddr, hmarker⟩, hroom⟩ := h
    rw [clearCounters_eq]
    exact ⟨⟨hplant, hfield, hresp, Counter.sound_zero, Counter.sound_zero, Counter.sound_zero, Counter.sound_zero, haddr,
      hmarker⟩, hroom⟩
  window _ _ _ _ _ h := h
  cursor _ _ _ _ _ h := h
  closeWindow _ h := h
  mapLane _ _ _ _ _ _ _ h := h
  chain _ _ _ h := h
  join _ _ _ _ h := h

theorem linkSound_passToPlant (run : Run) (h : s.linkSound) : (passToPlant run s).linkSound := by
  obtain ⟨hplant, hfield, hresp, hcrc, hframing, hoverrun, hrest⟩ := h
  unfold passToPlant
  split
  · exact ⟨by simp; omega, hfield, hresp, hcrc, hframing, hoverrun, hrest⟩
  · exact ⟨hplant, hfield, hresp, hcrc, hframing, Counter.sound_bump hoverrun, hrest⟩

theorem linkSound_passToField (run : Run) (h : s.linkSound) : (passToField run s).linkSound := by
  obtain ⟨hplant, hfield, hresp, hcrc, hframing, hoverrun, hrest⟩ := h
  unfold passToField
  split
  · exact ⟨hplant, by simp; omega, hresp, hcrc, hframing, hoverrun, hrest⟩
  · exact ⟨hplant, hfield, hresp, hcrc, hframing, Counter.sound_bump hoverrun, hrest⟩

/-- R167: a response joins the FIFO; the marker of a RESTART's joins with restart pending. -/
theorem linkSound_respond {v : State} {r : Outgoing} (h : s.taking)
    (hd : v.device = ({ s with restartPending := r.isRestart } : State).awoken.device) :
    ({ v with respFifo := v.respFifo ++ [r] } : State).linkSound := by
  obtain ⟨⟨hplant, hfield, -, hcrc, hframing, hoverrun, hrequest, haddr, hmarker⟩, hroom, hnone⟩ := h
  have hresp : v.device.respFifo = s.respFifo := by rw [hd]; rfl
  replace hresp : v.respFifo = s.respFifo := hresp
  refine linkSound_of_device (u := { ({ s with restartPending := r.isRestart } : State).awoken with
    respFifo := s.respFifo ++ [r] }) ?_ ⟨hplant, hfield, ?_, hcrc, hframing, hoverrun, hrequest, haddr, ?_⟩
  · show ({ v.device with respFifo := v.respFifo ++ [r] } : State) = _
    rw [hd, hresp]
    rfl
  · have hlen : (s.respFifo ++ [r]).length ≤ 4 := by simp; omega
    exact hlen
  · rw [hnone] at hmarker
    simp only [State.restartMarkers, Bool.false_eq_true, if_false, Nat.add_eq_zero_iff] at hmarker
    show ((s.respFifo ++ [r]).filter fun o => o.isRestart).length +
      (if s.plantLine.any fun o => o.isRestart then 1 else 0) = if r.isRestart then 1 else 0
    rw [List.filter_append, List.length_append, hmarker.1, hmarker.2]
    cases hb : r.isRestart <;> simp [hb]

theorem linkSound_servePlant (h : s.linkSound) : (servePlant s).linkSound := by
  obtain ⟨hplant, hfield, hresp, hcrc, hframing, hoverrun, hrequest, haddr, hmarker⟩ := id h
  have hmarkers : s.plantLine = none → (s.respFifo.filter fun o => o.isRestart).length = if s.restartPending then 1 else 0 :=
    fun hn => by simpa [State.restartMarkers, hn] using hmarker
  refine servePlant_rule h (fun run rest hn e => ?_) (fun r rest hn e => ?_) fun i f last silence overrun frame hn _ => ?_
  · refine ⟨by rw [e] at hplant; simp at hplant ⊢; omega, hfield, hresp, hcrc, hframing, hoverrun, hrequest, haddr, ?_⟩
    exact hmarkers hn
  · refine ⟨hplant, hfield, by rw [e] at hresp; simp at hresp ⊢; omega, hcrc, hframing, hoverrun, hrequest, haddr, ?_⟩
    have hm := hmarkers hn
    rw [e] at hm
    cases hb : r.isRestart <;> simp [State.restartMarkers, List.filter_cons, hb] at hm ⊢ <;> omega
  · refine ⟨hplant, hfield, hresp, hcrc, hframing, hoverrun, hrequest, haddr, ?_⟩
    exact hmarkers hn

/-- R184: with no RESTART's response waiting nor in transmission, a reset leaves none pending. -/
theorem linkSound_fresh {u : State} (hplant : u.plantFifo = []) (hfield : u.fieldFifo = []) (hresp : u.respFifo = [])
    (hcrc : u.crcCount = Counter.zero) (hframing : u.framingCount = Counter.zero) (hoverrun : u.overrunCount = Counter.zero)
    (hrequest : u.requestOverrunCount = Counter.zero) (haddr : u.address ≤ 15) (hpending : u.restartPending = false)
    (hline : ∀ o, u.plantLine = some o → o.isRestart = false) : u.linkSound := by
  refine ⟨by simp [hplant], by simp [hfield], by simp [hresp], hcrc ▸ Counter.sound_zero, hframing ▸ Counter.sound_zero,
    hoverrun ▸ Counter.sound_zero, hrequest ▸ Counter.sound_zero, haddr, ?_⟩
  cases hl : u.plantLine with
  | none => simp [State.restartMarkers, hresp, hl, hpending]
  | some o => simp [State.restartMarkers, hresp, hl, hpending, hline o hl]

theorem linkSound_endPlantFrame (h : s.linkSound) : (endPlantFrame s).linkSound := by
  unfold endPlantFrame
  split
  · exact linkSound_fresh rfl rfl rfl rfl rfl rfl rfl h.2.2.2.2.2.2.2.1 rfl fun o e => by cases e
  · next hline =>
    obtain ⟨hplant, hfield, hresp, hcrc, hframing, hoverrun, hrequest, haddr, hmarker⟩ := h
    exact ⟨hplant, hfield, hresp, hcrc, hframing, hoverrun, hrequest, haddr, by simpa [State.restartMarkers, hline] using hmarker⟩
  · exact h

theorem linkSound_powerOn (s : State) : (powerOn s).linkSound :=
  linkSound_fresh rfl rfl rfl rfl rfl rfl rfl (le_refl 15) rfl fun o e => by
    obtain ⟨o', -, rfl⟩ := Option.map_eq_some_iff.mp e
    rfl

theorem linkSound_carries : Carries State.taking State.linkSound where
  toSpoutMoves := linkSound_moves
  lane _ _ _ _ h := h
  framing _ h := by
    obtain ⟨hplant, hfield, hresp, hcrc, hframing, hrest⟩ := h
    exact ⟨hplant, hfield, hresp, hcrc, Counter.sound_bump hframing, hrest⟩
  toPlant _ run h := linkSound_passToPlant run h
  silent _ h := h
  silenceMark _ _ h := h
  acts := taking_acts
  taken _ hp hf h := ⟨h, hf, hp⟩
  replied u r hr h := by
    have hu : ({ u with restartPending := r.isRestart } : State) = u := by rw [hr, ← h.2.2]
    exact linkSound_respond h ((noteAccepted_device u).trans (by rw [hu]))
  restarting u r hr hp hf h :=
    linkSound_respond ⟨h, hf, hp⟩ ((noteAccepted_device { u with restartPending := true }).trans (by rw [hr]))
  crc _ h := by
    obtain ⟨hplant, hfield, hresp, hcrc, hrest⟩ := h
    exact ⟨hplant, hfield, hresp, Counter.sound_bump hcrc, hrest⟩
  requestOverrun _ h := by
    obtain ⟨hplant, hfield, hresp, hcrc, hframing, hoverrun, hrequest, hrest⟩ := h
    exact ⟨hplant, hfield, hresp, hcrc, hframing, hoverrun, Counter.sound_bump hrequest, hrest⟩
  toField _ run h := linkSound_passToField run h
  servePlant _ h := linkSound_servePlant h
  sendField u rest _ he h := by
    obtain ⟨hplant, hfield, hremaining⟩ := h
    obtain ⟨x, hx⟩ := he
    exact ⟨hplant, by rw [hx, List.length_append] at hfield; dsimp only; omega, hremaining⟩
  freeField _ h := h
  endPlant _ h := linkSound_endPlantFrame h
  unmapLane _ _ h := h
  powerOn u _ := linkSound_powerOn u

/-! ### The silence timer -/

theorem timerSound_of_device {u v : State} (hd : v.device = u.device) (h : u.timerSound) : v.timerSound := by
  show v.device.timerSound
  rw [hd]
  exact h

/-- R170: the silence setting's range, which is all that stands of the timer while a request acts. -/
def State.settingSound (s : State) : Prop := s.silenceK ≤ 7

theorem settingSound_of_device {u v : State} (hd : v.device = u.device) (h : u.settingSound) : v.settingSound := by
  show v.device.settingSound
  rw [hd]
  exact h

theorem timerSound_noteAccepted (h : s.settingSound) : (noteAccepted s).timerSound := by
  refine timerSound_of_device (noteAccepted_device s) ⟨h, fun n e => ?_, fun e => by cases e⟩
  have e' : (if s.silenceK ≤ 6 then some 0 else none) = some n := e
  split at e'
  · next hk =>
    cases e'
    exact ⟨hk, Nat.mul_pos (by omega) (Nat.pow_pos (by omega))⟩
  · cases e'

/-- R159: a timer that is stopped. -/
theorem timerSound_stopped (hk : s.silenceK ≤ 7) (ht : s.timer = none) : s.timerSound :=
  ⟨hk, fun n e => (by rw [ht] at e; cases e), fun _ => ht⟩

theorem settingSound_acts : Acts State.settingSound where
  toSpoutMoves := SpoutMoves.of_device fun _ _ => settingSound_of_device
  silenceK _ _ hv _ := hv
  grantLower _ _ _ _ h := h
  grantRaise _ _ _ _ h := settingSound_of_device (grantDecision_device _) h
  address _ _ _ h := h
  clearCounters _ ls h := by rw [clearCounters_eq]; exact h
  window _ _ _ _ _ h := h
  cursor _ _ _ _ _ h := h
  closeWindow _ h := h
  mapLane _ _ _ _ _ _ _ h := h
  chain _ _ _ h := h
  join _ _ _ _ h := h

theorem timerSound_carries : Carries State.settingSound State.timerSound where
  toSpoutMoves := SpoutMoves.of_device fun _ _ => timerSound_of_device
  lane _ _ _ _ h := h
  framing _ h := h
  toPlant _ run h := by unfold passToPlant; split <;> exact h
  silent _ h := timerSound_stopped h.1 rfl
  silenceMark _ _ h := h
  acts := settingSound_acts
  taken _ _ _ h := h.1
  replied _ _ _ h := timerSound_noteAccepted h
  restarting u _ _ _ _ h := timerSound_noteAccepted (s := { u with restartPending := true }) h.1
  crc _ h := h
  requestOverrun _ h := h
  toField _ run h := by unfold passToField; split <;> exact h
  servePlant _ h := servePlant_rule h (fun _ _ _ _ => h) (fun _ _ _ _ => h) fun _ _ _ _ _ _ _ _ => h
  sendField _ _ _ _ h := h
  freeField _ h := h
  endPlant _ h := by
    unfold endPlantFrame
    split
    · exact timerSound_stopped h.1 rfl
    · exact h
    · exact h
  unmapLane _ _ h := h
  powerOn _ _ := timerSound_stopped (show 3 ≤ 7 by omega) rfl

/-- R171: a timer that may have come to its timeout. -/
def State.timerDue (s : State) : Prop :=
  s.silenceK ≤ 7 ∧ (∀ n, s.timer = some n → s.silenceK ≤ 6) ∧ (s.silent = true → s.timer = none)

theorem timerDue_of_device {u v : State} (hd : v.device = u.device) (h : u.timerDue) : v.timerDue := by
  show v.device.timerDue
  rw [hd]
  exact h

theorem timerDue_events : Events State.timerDue where
  toSpoutMoves := SpoutMoves.of_device fun _ _ => timerDue_of_device
  lane _ _ _ _ h := h
  framing _ h := h
  toPlant _ run h := by unfold passToPlant; split <;> exact h
  silent _ h := ⟨h.1, fun n e => (by cases e), fun _ => rfl⟩
  silenceMark _ _ h := h

/-- R171: the expiry stops the timer. -/
theorem timerSound_expireSilence (h : s.timerDue) : (expire .silence s).timerSound := by
  have hstopped : ({ s with timer := none, silent := true } : State).timerSound := timerSound_stopped h.1 rfl
  have M := timerSound_carries.toSpoutMoves
  show (if s.timer.isSome then expireSilence s else s).timerSound
  split
  · exact timerSound_carries.silenceMark _ _
      (M.inFreeOrder _ (fun _ _ hu => SpoutMoves.ite_carries (M.enterHeld _ hu) hu) _ _ hstopped)
  · next ht => exact timerSound_stopped h.1 (by simpa using ht)

/-- What every act of a free order keeps, the whole order keeps. -/
theorem inFreeOrder_keeps {α : Type} {act : α → State → State} {J : State → Prop} (hJ : ∀ x u, J u → J (act x u))
    (hfree : ∀ u n, J u → J { u with freeCount := n }) :
    ∀ (n : Nat) (xs : List α) (s : State), J s → J (inFreeOrder act n xs s) := by
  intro n
  induction n with
  | zero => exact fun _ _ h => h
  | succ n ih =>
    intro xs s h
    unfold inFreeOrder
    split
    · exact h
    · exact hJ _ _ h
    · exact ih _ _ (hJ _ _ (hfree _ _ h))

/-- What is taken in a free order is each taken once: an act that brings a property about, which the others keep, has brought it
about at the end. -/
theorem inFreeOrder_reaches {α : Type} {act : α → State → State} {T J : State → Prop} (x₀ : α)
    (hT : ∀ x u, T u → T (act x u)) (hJ : ∀ x u, J u → J (act x u)) (hx : ∀ u, T u → J (act x₀ u))
    (hfreeT : ∀ u n, T u → T { u with freeCount := n }) (hfreeJ : ∀ u n, J u → J { u with freeCount := n }) :
    ∀ (n : Nat) (xs : List α) (s : State), xs.length ≤ n → x₀ ∈ xs → T s → J (inFreeOrder act n xs s) := by
  intro n
  induction n with
  | zero =>
    intro xs s hlen hmem _
    rw [List.length_eq_zero_iff.mp (Nat.le_zero.mp hlen)] at hmem
    cases hmem
  | succ n ih =>
    intro xs s hlen hmem h
    unfold inFreeOrder
    split
    · cases hmem
    · rw [List.mem_singleton.mp hmem] at hx
      exact hx _ h
    · next x y rest =>
      have hk : Config.pick s.freeCount % (rest.length + 2) < (x :: y :: rest).length := Nat.mod_lt _ (by omega)
      dsimp only
      generalize Config.pick s.freeCount % (rest.length + 2) = k at hk
      rw [List.getD_eq_getElem _ _ hk]
      by_cases he : (x :: y :: rest)[k] = x₀
      · rw [he]
        exact inFreeOrder_keeps hJ hfreeJ _ _ _ (hx _ (hfreeT _ _ h))
      · refine ih _ _ ?_ ?_ (hT _ _ (hfreeT _ _ h))
        · rw [List.length_eraseIdx_of_lt hk]
          omega
        · obtain ⟨j, hj, hxj⟩ := List.mem_iff_getElem.mp hmem
          exact (List.mem_eraseIdx_iff_getElem).mpr ⟨j, hj, fun e => he (by subst e; exact hxj), hxj⟩

/-- R170, R171: a millisecond on which the timer comes to its timeout ends with the timer stopped. -/
theorem timerSound_tick (h : s.timerSound) (he : tick s = .next t) : t.timerSound := by
  obtain ⟨hk, htimer, hsilent⟩ := h
  have hdue : s.older.timerDue := by
    refine ⟨hk, fun n e => ?_, fun e => ?_⟩
    · obtain ⟨m, hm, -⟩ := Option.map_eq_some_iff.mp e
      exact (htimer m hm).1
    · show s.timer.map _ = none
      rw [hsilent e]
      rfl
  have E := timerSound_carries.toEvents
  refine timerSound_carries.finish ?_ he
  cases hx : s.silenceExpires with
  | true =>
    exact inFreeOrder_reaches .silence (fun x _ hu => timerDue_events.expire x hu) (fun x _ hu => E.expire x hu)
      (fun _ hu => timerSound_expireSilence hu) (fun _ _ hu => hu) (fun _ _ hu => hu) _ _ _ le_rfl
      (by simp [State.expiries, hx]) hdue
  | false =>
    refine E.inFreeOrder _ (fun x _ hu => E.expire x hu) _ _ ⟨hk, fun n e => ?_, hdue.2.2⟩
    obtain ⟨m, hm, rfl⟩ := Option.map_eq_some_iff.mp e
    simp only [State.silenceExpires, hm] at hx
    exact ⟨(htimer m hm).1, not_le.mp (of_decide_eq_false hx)⟩

theorem timerSound_step (h : s.timerSound) (he : step s = .next t) : t.timerSound := by
  unfold step at he
  split at he
  · next c rest _ =>
    have hq : ({ s with pending := rest } : State).timerSound := h
    exact timerSound_carries.exec c hq he
  · exact timerSound_tick h he

/-! ### The lines -/

/-- R165: the plant-bound line has nothing to send. -/
def State.plantIdle (s : State) : Prop :=
  s.plantFifo = [] ∧ s.respFifo = [] ∧ s.silenceMark.pending = false ∧ s.overrunMark.pending = false ∧
    ∀ i, (s.spout i).reportDue = false ∧ ∀ k : AlertKind, (s.spout i).alerts[k.index].pending = false

theorem firstAlert_none {p : Spout} (h : p.firstAlert = none) (k : AlertKind) : p.alerts[k.index].pending = false := by
  simpa using List.find?_eq_none.mp h k (mem_alertKinds k)

theorem alertingSpout_none (h : s.alertingSpout = none) (i : SpoutId) (k : AlertKind) :
    (s.spout i).alerts[k.index].pending = false := by
  have hi : ((s.spout i).firstAlert).map (fun k => (i, k)) = none :=
    List.findSome?_eq_none_iff.mp h i (by fin_cases i <;> decide)
  exact firstAlert_none (Option.map_eq_none_iff.mp hi) k

/-- R165: the round of the four spouts passes every one. -/
theorem mem_round (n i : SpoutId) : i ∈ [0, 1, 2, 3].map fun m => (Fin.ofNat 4 (n.val + 1 + m) : SpoutId) := by
  revert n i; decide

theorem reportingSpout_none (h : s.reportingSpout = none) (i : SpoutId) : (s.spout i).reportDue = false := by
  simpa using List.find?_eq_none.mp h i (mem_round s.lastReported i)

theorem servePlant_idle (h : (servePlant s).plantLine = none) : (servePlant s).plantIdle := by
  unfold servePlant at h ⊢
  split at h
  · next hline => rw [hline] at h; cases h
  · split at h
    · cases h
    · next hplant =>
      split at h
      · cases h
      · next hresp =>
        unfold chooseMark at h ⊢
        split at h
        · cases h
        · next halert =>
          split at h
          · cases h
          · next hsilence =>
            split at h
            · cases h
            · next hoverrun =>
              split at h
              · cases h
              · next hreport =>
                simp only [hplant, hresp, halert, hsilence, hoverrun, hreport, h]
                exact ⟨hplant, hresp, by simpa using hsilence, by simpa using hoverrun, fun i =>
                  ⟨reportingSpout_none hreport i, alertingSpout_none halert i⟩⟩

/-- R166: what the field-bound arbiter leaves of the plant-bound side. -/
theorem chooseField_plantSide (is : List SpoutId) (s : State) :
    (chooseField is s).plantLine = s.plantLine ∧ (s.plantIdle → (chooseField is s).plantIdle) := by
  induction is generalizing s with
  | nil => unfold chooseField sendFieldPass; split <;> exact ⟨rfl, id⟩
  | cons i rest ih =>
    have hupd : ∀ seq : Spout → Byte, s.plantIdle →
        (s.upd i fun p => { p with gatePending := false, orderSeq := seq p }).plantIdle := by
      rintro seq ⟨hplant, hresp, hsilence, hoverrun, hspouts⟩
      refine ⟨hplant, hresp, hsilence, hoverrun, fun j => ?_⟩
      rw [spout_upd]
      split
      · next e => subst e; exact hspouts _
      · exact hspouts j
    unfold chooseField
    split
    · split
      · exact ⟨rfl, fun h => hupd (fun p => p.orderSeq + 1) h⟩
      · have hrest := ih (dropGateOrder i s)
        exact ⟨hrest.1, fun h => hrest.2 (hupd (fun p => p.orderSeq) h)⟩
    · exact ih s

/-- R166: a field-bound line that stays free has no gate order pending and no frame waiting. -/
theorem chooseField_idle (is : List SpoutId) (s : State) (h : (chooseField is s).fieldLine = none) :
    (chooseField is s).fieldFifo = [] ∧
      ∀ i, i ∈ is ∨ (s.spout i).gatePending = false → ((chooseField is s).spout i).gatePending = false := by
  induction is generalizing s with
  | nil =>
    unfold chooseField sendFieldPass at h ⊢
    split at h
    · cases h
    · next hf => exact ⟨by simp [hf], fun i hi => by simpa [hf] using hi⟩
  | cons i rest ih =>
    unfold chooseField at h ⊢
    split at h
    · next hp =>
      rw [if_pos hp]
      cases hl : s.laneOf i .gate with
      | some l => rw [hl] at h; cases h
      | none =>
        rw [hl] at h
        have hrest := ih (dropGateOrder i s) h
        refine ⟨hrest.1, fun j hj => hrest.2 j ?_⟩
        rw [dropGateOrder, spout_upd]
        by_cases e : j = i
        · exact .inr (by rw [if_pos e])
        · rw [if_neg e]
          exact hj.imp_left fun hm => (List.mem_cons.mp hm).resolve_left e
    · next hp =>
      rw [if_neg hp]
      have hrest := ih s h
      refine ⟨hrest.1, fun j hj => hrest.2 j ?_⟩
      rcases hj with hj | hj
      · rcases List.mem_cons.mp hj with rfl | hj
        · exact .inr (by simpa using hp)
        · exact .inl hj
      · exact .inr hj

theorem serveField_plantSide (s : State) :
    (serveField s).plantLine = s.plantLine ∧ (s.plantIdle → (serveField s).plantIdle) := by
  unfold serveField
  split
  · exact ⟨rfl, id⟩
  · exact chooseField_plantSide _ s

theorem serveField_idle (h : (serveField s).fieldLine = none) :
    (serveField s).fieldFifo = [] ∧ ∀ i, ((serveField s).spout i).gatePending = false := by
  unfold serveField at h ⊢
  cases hline : s.fieldLine with
  | some o => rw [hline] at h; exact absurd (hline.symm.trans h) (by simp)
  | none =>
    rw [hline] at h
    have hidle := chooseField_idle spoutIds s h
    exact ⟨hidle.1, fun i => hidle.2 i (.inl (by fin_cases i <;> decide))⟩

theorem serveLines_plantIdle (h : (serveLines s).plantLine = none) : (serveLines s).plantIdle := by
  have hside := serveField_plantSide (servePlant s)
  exact hside.2 (servePlant_idle (hside.1.symm.trans h))

/-- R165, R166: every command ends with both arbiters' choices. -/
theorem exec_eq_finish (c : Instr) (s : State) : ∃ u, exec c s = finish u := by cases c <;> exact ⟨_, rfl⟩

theorem step_eq_finish (s : State) : ∃ u, step s = finish u := by
  unfold step
  split
  · exact exec_eq_finish _ _
  · exact ⟨_, rfl⟩

end Sys2Proof.Machine

namespace Sys2Proof.Settled

open Sys2Proof.Machine

/-- Settles O13: FIFOs are filled only where there is room, counters stop, RESTART's response carries its marker to the line, an
expiring timer stops, and every command ends with both arbiters' choices. -/
theorem linksKept : Obligations.LinksKept := by
  refine ⟨fun s t h he => step_carries linkSound_carries id (fun _ h => h) h he, fun s t h he => timerSound_step h he,
    fun s t he => ?_⟩
  obtain ⟨u, hu⟩ := step_eq_finish s
  rw [hu] at he
  cases he
  exact ⟨serveLines_plantIdle, serveField_idle⟩

end Sys2Proof.Settled
end

section
/-! PROOFS. Mapped lanes stay sound and of different roles, and a spout outside PARKED keeps the lanes it needs (R58, R145, R147
to R150, R156); and the settled statement about the lane map. -/

set_option Elab.async false

namespace Sys2Proof.Machine

variable {s t u v : State} {i : SpoutId} {l m : LaneId} {e f : Lane}

/-! ### Each lane by itself, and no two of one role -/

theorem lane_setLane (l m : LaneId) (x : Option Lane) (s : State) :
    (s.setLane l x).lane m = if m = l then x else s.lane m := by
  by_cases h : m = l
  · subst h; simp
  · rw [if_neg h]; exact lane_setLane_ne s h x

theorem lane_updLane (l m : LaneId) (k : Lane → Lane) (s : State) :
    (s.updLane l k).lane m = if m = l then (s.lane l).map k else s.lane m := lane_setLane l m _ s

/-- R149: no role of a spout is held by two lanes. -/
def State.rolesUnique (s : State) : Prop :=
  ∀ l m e f, s.lane l = some e → s.lane m = some f → e.spout = f.spout → e.role = f.role → l = m

/-- R145 to R149: the lane map without the spouts that need it. -/
def State.mapSound (s : State) : Prop := (∀ l e, s.lane l = some e → e.sound) ∧ s.rolesUnique

theorem mapSound_of_device (hd : v.device = u.device) (h : u.mapSound) : v.mapSound := by
  have hl := lane_of_device hd
  refine ⟨fun l e he => h.1 l e ((hl l).symm.trans he), fun l m e f he hf => h.2 l m e f ((hl l).symm.trans he) ((hl m).symm.trans hf)⟩

/-- Every lane of the new map stands for one of the old map, of the same mapping. -/
theorem rolesUnique_of_map (h : u.rolesUnique)
    (hm : ∀ l e, v.lane l = some e → ∃ e', u.lane l = some e' ∧ e'.spout = e.spout ∧ e'.role = e.role) : v.rolesUnique := by
  intro l m e f he hf hs hr
  obtain ⟨e', he', hes, her⟩ := hm l e he
  obtain ⟨f', hf', hfs, hfr⟩ := hm m f hf
  exact h l m e' f' he' hf' (hes.trans (hs.trans hfs.symm)) (her.trans (hr.trans hfr.symm))

theorem mapSound_updLane {k : Lane → Lane} (hk : ∀ e, u.lane l = some e → e.steady (k e)) (h : u.mapSound) :
    (u.updLane l k).mapSound := by
  have hlane : ∀ m e, (u.updLane l k).lane m = some e → ∃ e', u.lane m = some e' ∧ e'.steady e := fun m e he => by
    rw [lane_updLane] at he
    split at he
    · next hml =>
      obtain ⟨e', he', rfl⟩ := Option.map_eq_some_iff.mp he
      exact ⟨e', hml ▸ he', hk e' he'⟩
    · exact ⟨e, he, rfl, rfl, id⟩
  refine ⟨fun m e he => ?_, rolesUnique_of_map h.2 fun m e he => ?_⟩
  · obtain ⟨e', he', -, -, hs⟩ := hlane m e he
    exact hs (h.1 m e' he')
  · obtain ⟨e', he', hs, hr, -⟩ := hlane m e he
    exact ⟨e', he', hs.symm, hr.symm⟩

theorem Lane.sound_mapped (i : SpoutId) (r : Role) (fwd : Bool) : (Lane.mapped i r fwd).sound := by
  have := Lane.limit_pos r
  refine ⟨Counter.sound_zero, Counter.sound_zero, Counter.sound_zero, Nat.zero_le _, ?_, fun _ => ⟨rfl, rfl⟩, fun _ => Nat.zero_le _,
    fun _ => Nat.zero_le _, fun _ => Nat.zero_le _⟩
  simp only [Lane.mapped, Bool.false_eq_true, false_iff]
  omega

theorem mapSound_mapped (i : SpoutId) (r : Role) (fwd : Bool) (hr : u.laneOf i r = none) (h : u.mapSound) :
    (u.setLane l (some (Lane.mapped i r fwd))).mapSound := by
  have hfree := laneOf_none_iff.mp hr
  refine ⟨fun m e he => ?_, fun m n e f he hf hs hrole => ?_⟩
  · rw [lane_setLane] at he
    split at he
    · cases he; exact Lane.sound_mapped i r fwd
    · exact h.1 m e he
  · rw [lane_setLane] at he hf
    split at he <;> split at hf
    · next hm hn => rw [hm, hn]
    · cases he; exact absurd hrole.symm (hfree n f hf hs.symm)
    · cases hf; exact absurd hrole (hfree m e he hs)
    · exact h.2 m n e f he hf hs hrole

theorem mapSound_unmapped (l : LaneId) (h : u.mapSound) : (u.setLane l none).mapSound := by
  have hlane : ∀ m e, (u.setLane l none).lane m = some e → u.lane m = some e := fun m e he => by
    rw [lane_setLane] at he
    split at he
    · cases he
    · exact he
  exact ⟨fun m e he => h.1 m e (hlane m e he), rolesUnique_of_map h.2 fun m e he => ⟨e, hlane m e he, rfl, rfl⟩⟩

/-- R157: the counters of the lanes named return to 0. -/
theorem clearCounters_lane (ls : List LaneId) (s : State) (m : LaneId) :
    (clearCounters ls s).lane m = if m ∈ ls then (s.lane m).map Lane.clearCounters else s.lane m := by
  have hfold : ∀ (ls : List LaneId) (u : State), (ls.foldl (fun t l => t.updLane l Lane.clearCounters) u).lane m =
      if m ∈ ls then (u.lane m).map Lane.clearCounters else u.lane m := by
    intro ls
    induction ls with
    | nil => exact fun u => rfl
    | cons l rest ih =>
      intro u
      have htwice : Lane.clearCounters ∘ Lane.clearCounters = Lane.clearCounters := rfl
      rw [List.foldl_cons, ih, lane_updLane]
      by_cases hm : m = l <;> by_cases hr : m ∈ rest <;> simp [hm, hr, htwice]
  exact hfold ls _

theorem clearCounters_lane_steady (ls : List LaneId) (s : State) (m : LaneId) :
    ∃ k : Lane → Lane, (∀ e : Lane, e.steady (k e)) ∧ (clearCounters ls s).lane m = (s.lane m).map k := by
  rw [clearCounters_lane]
  split
  · exact ⟨Lane.clearCounters, fun _ => Lane.steady_clearCounters, rfl⟩
  · exact ⟨id, fun _ => ⟨rfl, rfl, id⟩, by simp⟩

theorem mapSound_clearCounters (ls : List LaneId) (h : u.mapSound) : (clearCounters ls u).mapSound := by
  have hlane : ∀ m e, (clearCounters ls u).lane m = some e → ∃ e', u.lane m = some e' ∧ e'.steady e := fun m e he => by
    obtain ⟨k, hk, hm⟩ := clearCounters_lane_steady ls u m
    rw [hm] at he
    obtain ⟨e', he', rfl⟩ := Option.map_eq_some_iff.mp he
    exact ⟨e', he', hk e'⟩
  refine ⟨fun m e he => ?_, rolesUnique_of_map h.2 fun m e he => ?_⟩
  · obtain ⟨e', he', -, -, hs⟩ := hlane m e he
    exact hs (h.1 m e' he')
  · obtain ⟨e', he', hs, hr, -⟩ := hlane m e he
    exact ⟨e', he', hs.symm, hr.symm⟩

theorem restartNow_lane (s : State) (l : LaneId) : (restartNow s).lane l = (s.lane l).map Lane.restart := by
  simp [restartNow, State.lane]

theorem powerOn_lane (s : State) (l : LaneId) : (powerOn s).lane l = none := by
  simp [powerOn, State.lane, State.reset]

theorem Lane.sound_restart (e : Lane) : e.restart.sound := by
  have := Lane.limit_pos e.role
  refine ⟨Counter.sound_zero, Counter.sound_zero, Counter.sound_zero, Nat.zero_le _, ?_, fun _ => ⟨rfl, rfl⟩, fun _ => Nat.zero_le _,
    fun _ => Nat.zero_le _, fun _ => Nat.zero_le _⟩
  simp only [Lane.restart, Bool.false_eq_true, false_iff]
  omega

theorem mapSound_endPlantFrame (h : u.mapSound) : (endPlantFrame u).mapSound := by
  unfold endPlantFrame
  split
  · have hlane : ∀ m e, (restartNow { u with plantLine := none }).lane m = some e →
        ∃ e', u.lane m = some e' ∧ e'.restart = e := fun m e he => by
      rw [restartNow_lane] at he
      exact Option.map_eq_some_iff.mp he
    refine ⟨fun m e he => ?_, rolesUnique_of_map h.2 fun m e he => ?_⟩
    · obtain ⟨e', -, rfl⟩ := hlane m e he
      exact Lane.sound_restart e'
    · obtain ⟨e', he', rfl⟩ := hlane m e he
      exact ⟨e', he', rfl, rfl⟩
  · exact h
  · exact h

theorem mapSound_noteAccepted (h : u.mapSound) : (noteAccepted u).mapSound := mapSound_of_device (noteAccepted_device u) h

theorem mapSound_acts : Acts State.mapSound where
  toSpoutMoves := SpoutMoves.of_device fun _ _ => mapSound_of_device
  silenceK _ _ _ h := h
  grantLower _ _ _ _ h := h
  grantRaise _ _ _ _ h := mapSound_of_device (grantDecision_device _) h
  address _ _ _ h := h
  clearCounters _ ls h := mapSound_clearCounters ls h
  window _ _ _ _ _ h := h
  cursor _ _ _ _ _ h := h
  closeWindow _ h := h
  mapLane _ _ i r fwd _ hr h := mapSound_mapped i r fwd hr h
  chain _ _ _ h := h
  join _ _ _ _ h := h

theorem mapSound_carries : Carries State.mapSound State.mapSound where
  toSpoutMoves := SpoutMoves.of_device fun _ _ => mapSound_of_device
  lane _ _ _ hk h := mapSound_updLane hk h
  framing _ h := h
  toPlant _ run h := by unfold passToPlant; split <;> exact h
  silent _ h := h
  silenceMark _ _ h := h
  acts := mapSound_acts
  taken _ _ _ h := h
  replied u _ _ h := mapSound_noteAccepted (u := u) h
  restarting u _ _ _ _ h := mapSound_noteAccepted (u := { u with restartPending := true }) h
  crc _ h := h
  requestOverrun _ h := h
  toField _ run h := by unfold passToField; split <;> exact h
  servePlant _ h := servePlant_rule h (fun _ _ _ _ => h) (fun _ _ _ _ => h) fun _ _ _ _ _ _ _ _ => h
  sendField _ _ _ _ h := h
  freeField _ h := h
  endPlant _ h := mapSound_endPlantFrame h
  unmapLane _ l h := mapSound_unmapped l h
  powerOn u _ := ⟨fun l e he => (by rw [powerOn_lane] at he; cases he), fun l m e f he => by rw [powerOn_lane] at he; cases he⟩

/-! ### A millisecond -/

/-- R145: a lane that has grown older: sound, but that it may have come to its limit and is not stale yet. -/
def Lane.aged (e : Lane) : Prop :=
  e.crc.sound ∧ e.gap.sound ∧ e.dup.sound ∧ e.age ≤ e.role.limit ∧ (e.stale = true → e.age = e.role.limit) ∧
    (e.role = .force → e.lastSeq = none ∧ e.latest = 0) ∧ (e.role = .gate → e.latest ≤ 1000) ∧
    (e.role = .air → e.latest ≤ 65535) ∧ (e.role = .probe ∨ e.role = .bay → e.latest ≤ 1)

/-- R9, R148: a lane left as it is, or made stale at its limit. -/
def Lane.outlives (e e' : Lane) : Prop :=
  e' = e ∨ ∃ seq, (e.role = .force → seq = e.lastSeq) ∧ e' = { e with age := e.role.limit, stale := true, lastSeq := seq }

theorem Lane.sound_of_stale (h : e.aged) (hs : e.stale = true) : e.sound := by
  obtain ⟨hcrc, hgap, hdup, hage, hstale, hrest⟩ := h
  exact ⟨hcrc, hgap, hdup, hage, ⟨hstale, fun _ => hs⟩, hrest⟩

theorem Lane.aged_of_sound (h : e.sound) : e.aged := by
  obtain ⟨hcrc, hgap, hdup, hage, hstale, hrest⟩ := h
  exact ⟨hcrc, hgap, hdup, hage, hstale.mp, hrest⟩

theorem Lane.aged_outlives (h : e.aged) (ho : e.outlives f) : f.aged := by
  rcases ho with rfl | ⟨seq, hseq, rfl⟩
  · exact h
  · obtain ⟨hcrc, hgap, hdup, -, -, hforce, hrest⟩ := h
    exact ⟨hcrc, hgap, hdup, le_rfl, fun _ => rfl, fun hr => ⟨(hseq hr).trans (hforce hr).1, (hforce hr).2⟩, hrest⟩

theorem Lane.sound_outlives (h : e.sound) (ho : e.outlives f) : f.sound := by
  rcases ho with rfl | ⟨seq, hseq, rfl⟩
  · exact h
  · exact Lane.sound_of_stale (Lane.aged_outlives (Lane.aged_of_sound h) (.inr ⟨seq, hseq, rfl⟩)) rfl

/-- Every lane of the new map outlives that of the old map. -/
def State.outlives (u v : State) : Prop := ∀ m, ∀ e, v.lane m = some e → ∃ e', u.lane m = some e' ∧ e'.outlives e

theorem outlives_of_device (hd : v.device = u.device) : u.outlives v := fun m e he =>
  ⟨e, by rw [← lane_of_device hd]; exact he, .inl rfl⟩

theorem outlives_trans {w : State} (h : u.outlives v) (hd : w.device = v.device) : u.outlives w := fun m e he =>
  h m e ((lane_of_device hd m).symm.trans he)

theorem outlives_updLane {k : Lane → Lane} (hk : ∀ e, u.lane l = some e → e.outlives (k e)) : u.outlives (u.updLane l k) := by
  intro m e he
  rw [lane_updLane] at he
  split at he
  · next hm =>
    obtain ⟨e', he', rfl⟩ := Option.map_eq_some_iff.mp he
    exact ⟨e', hm ▸ he', hk e' he'⟩
  · exact ⟨e, he, .inl rfl⟩

theorem Lane.outlives_starved (hr : e.role = .force) : e.outlives { e with age := 50, stale := true } := by
  refine .inr ⟨e.lastSeq, fun _ => rfl, ?_⟩
  rw [show (50 : Nat) = e.role.limit by rw [hr]; rfl]

theorem Lane.outlives_goStale (hr : e.role ≠ .force) : e.outlives e.goStale := by
  refine .inr ⟨none, fun h => absurd h hr, ?_⟩
  have hlimit : e.role.limit = 200 := by revert hr; cases e.role <;> simp [Role.limit]
  rw [hlimit]
  rfl

/-- R9: what starvation leaves of the lanes. -/
theorem starve_lane (i : SpoutId) (s : State) :
    (starve i s).device = s.device ∧ (∀ l, s.laneOf i .force = some l → (s.lane l).any (·.stale) = true) ∨
      ∃ l, s.laneOf i .force = some l ∧ (starve i s).device = (s.updLane l fun e => { e with age := 50, stale := true }).device := by
  unfold starve
  split
  · next hn => exact .inl ⟨rfl, fun l e => by rw [hn] at e; cases e⟩
  · next l hl =>
    split
    · next hs => exact .inl ⟨rfl, fun m e => by rw [hl] at e; cases e; exact hs⟩
    · refine .inr ⟨l, hl, ?_⟩
      dsimp only
      split
      · exact enterFault_device ..
      · rfl

theorem probeCondition_device (i : SpoutId) (s : State) : (probeCondition i s).device = s.device :=
  (SpoutMoves.of_device (G := fun u => u.device = s.device) fun _ _ hd h => hd.trans h).probeCondition rfl

theorem bayCondition_device (i : SpoutId) (s : State) : (bayCondition i s).device = s.device :=
  (SpoutMoves.of_device (G := fun u => u.device = s.device) fun _ _ hd h => hd.trans h).bayCondition rfl

/-- R148: what LANE_STALE leaves of the lanes. -/
theorem laneGoesStale_device {e : Lane} (he : s.lane l = some e) (hr : e.role ≠ .force) (hs : e.stale = false) :
    (laneGoesStale l s).device = (s.updLane l Lane.goStale).device := by
  unfold laneGoesStale
  rw [he]
  dsimp only
  rw [if_neg (by simp [hs])]
  cases hrole : e.role with
  | force => exact absurd hrole hr
  | gate => rfl
  | air => rfl
  | probe => exact probeCondition_device ..
  | bay => exact bayCondition_device ..

theorem starve_outlives (i : SpoutId) (s : State) : s.outlives (starve i s) := by
  rcases starve_lane i s with ⟨hd, -⟩ | ⟨l, hl, hd⟩
  · exact outlives_of_device hd
  · refine outlives_trans (outlives_updLane fun e he => ?_) hd
    obtain ⟨e', he', -, hr⟩ := laneOf_some hl
    cases he.symm.trans he'
    exact Lane.outlives_starved hr

theorem laneGoesStale_outlives (hr : ∀ e, s.lane l = some e → e.role ≠ .force) : s.outlives (laneGoesStale l s) := by
  cases he : s.lane l with
  | none => exact outlives_of_device (by rw [laneGoesStale, he])
  | some e =>
    cases hs : e.stale with
    | true => exact outlives_of_device (by rw [laneGoesStale, he]; simp [hs])
    | false =>
      refine outlives_trans (outlives_updLane fun f hf => ?_) (laneGoesStale_device he (hr e he) hs)
      cases he.symm.trans hf
      exact Lane.outlives_goStale (hr e he)

theorem expireLane_of_force {e : Lane} (he : s.lane l = some e) (hr : e.role = .force) : expireLane l s = starve e.spout s := by
  simp [expireLane, he, hr]

theorem expireLane_of_latest {e : Lane} (he : s.lane l = some e) (hr : e.role ≠ .force) : expireLane l s = laneGoesStale l s := by
  simp only [expireLane, he]
  cases hrole : e.role with
  | force => exact absurd hrole hr
  | gate | air | probe | bay => rfl

theorem expireSilence_lanes (s : State) : (expireSilence s).lanes = s.lanes := by
  have M : SpoutMoves fun u => u.lanes = s.lanes := SpoutMoves.of_device fun _ _ hd h => (lanes_of_device hd).trans h
  exact M.inFreeOrder _ (fun _ u hu => SpoutMoves.ite_carries (G := fun u => u.lanes = s.lanes) (M.enterHeld _ hu) hu) _ _ rfl

theorem expire_outlives (x : Expiry) (s : State) : s.outlives (expire x s) := by
  cases x with
  | silence =>
    have hlanes : (expire .silence s).lanes = s.lanes := SpoutMoves.ite_carries (G := fun u => u.lanes = s.lanes)
      (expireSilence_lanes s) rfl
    exact fun m e he => ⟨e, by rw [State.lane, ← hlanes]; exact he, .inl rfl⟩
  | lane l =>
    show s.outlives (expireLane l s)
    cases he : s.lane l with
    | none => exact outlives_of_device (by rw [expireLane, he])
    | some e =>
      by_cases hr : e.role = .force
      · rw [expireLane_of_force he hr]
        exact starve_outlives e.spout s
      · rw [expireLane_of_latest he hr]
        exact laneGoesStale_outlives fun f hf => by cases he.symm.trans hf; exact hr

/-- R9, R148: the lane whose age has come to its limit is stale once that has acted. -/
theorem expireLane_stale (hu : s.rolesUnique) (hf : (expireLane l s).lane l = some f) : f.stale = true := by
  cases he : s.lane l with
  | none =>
    rw [expireLane, he] at hf
    cases he.symm.trans hf
  | some e =>
    by_cases hr : e.role = .force
    · rw [expireLane_of_force he hr] at hf
      have hl : s.laneOf e.spout .force = some l := by
        cases hx : s.laneOf e.spout .force with
        | none => exact absurd hr (laneOf_none_iff.mp hx l e he rfl)
        | some m =>
          obtain ⟨e', he', hs', hr'⟩ := laneOf_some hx
          rw [hu m l e' e he' he hs' (hr'.trans hr.symm)]
      rcases starve_lane e.spout s with ⟨hd, hstale⟩ | ⟨m, hm, hd⟩
      · have hst := hstale l hl
        rw [lane_of_device hd] at hf
        rw [hf] at hst
        exact hst
      · cases hl.symm.trans hm
        rw [lane_of_device hd, lane_updLane, if_pos rfl, he] at hf
        cases hf
        rfl
    · rw [expireLane_of_latest he hr] at hf
      cases hs : e.stale with
      | true =>
        rw [laneGoesStale, he] at hf
        simp only [hs, if_true] at hf
        cases he.symm.trans hf
        exact hs
      | false =>
        rw [lane_of_device (laneGoesStale_device he hr hs), lane_updLane, if_pos rfl, he] at hf
        cases hf
        rfl

/-- The lane map while a millisecond passes: no role is held twice, and the lanes have grown older. -/
def State.mapAged (s : State) : Prop := s.rolesUnique ∧ ∀ l e, s.lane l = some e → e.aged

theorem mapAged_outlives (ho : s.outlives t) (h : s.mapAged) : t.mapAged := by
  refine ⟨rolesUnique_of_map h.1 fun m e he => ?_, fun m e he => ?_⟩ <;> obtain ⟨e', he', hx⟩ := ho m e he
  · exact ⟨e', he', by rcases hx with rfl | ⟨seq, -, rfl⟩ <;> exact ⟨rfl, rfl⟩⟩
  · exact Lane.aged_outlives (h.2 m e' he') hx

/-- A lane of an aged map that is sound stays so while the millisecond's expiries act. -/
def State.laneAged (s : State) (l : LaneId) : Prop := s.mapAged ∧ ∀ e, s.lane l = some e → e.sound

theorem laneAged_outlives (ho : s.outlives t) (h : s.laneAged l) : t.laneAged l := by
  refine ⟨mapAged_outlives ho h.1, fun e he => ?_⟩
  obtain ⟨e', he', hx⟩ := ho l e he
  exact Lane.sound_outlives (h.2 e' he') hx

theorem laneAged_expires (h : s.mapAged) : (expire (.lane l) s).laneAged l := by
  have h' := mapAged_outlives (expire_outlives (.lane l) s) h
  exact ⟨h', fun f hf => Lane.sound_of_stale (h'.2 l f hf) (expireLane_stale h.1 hf)⟩

theorem older_lane (s : State) (l : LaneId) : s.older.lane l = (s.lane l).map Lane.older := by
  simp [State.older, State.lane]

theorem Lane.aged_older (h : e.sound) : e.older.aged := by
  obtain ⟨hcrc, hgap, hdup, -, hstale, hrest⟩ := h
  refine ⟨hcrc, hgap, hdup, Nat.min_le_left .., fun hs => ?_, hrest⟩
  have hage : e.age = e.role.limit := hstale.mp hs
  show min e.role.limit (e.age + 1) = e.role.limit
  omega

theorem Lane.sound_older (h : e.sound) (hx : e.expires = false) : e.older.sound := by
  obtain ⟨hcrc, hgap, hdup, hage, hstale, hrest⟩ := h
  refine ⟨hcrc, hgap, hdup, Nat.min_le_left .., hstale.trans ?_, hrest⟩
  have hne : e.age + 1 ≠ e.role.limit := by simpa [Lane.expires] using hx
  show e.age = e.role.limit ↔ min e.role.limit (e.age + 1) = e.role.limit
  omega

theorem mapSound_tick (h : s.mapSound) (he : tick s = .next t) : t.mapSound := by
  have haged : s.older.mapAged := by
    refine ⟨rolesUnique_of_map h.2 fun l e hl => ?_, fun l e hl => ?_⟩ <;>
      (rw [older_lane] at hl; obtain ⟨e', he', rfl⟩ := Option.map_eq_some_iff.mp hl)
    · exact ⟨e', he', rfl, rfl⟩
    · exact Lane.aged_older (h.1 l e' he')
  have hlane : ∀ l, (inFreeOrder expire s.expiries.length s.expiries s.older).laneAged l := fun l => by
    by_cases hx : (s.lane l).any Lane.expires = true
    · exact inFreeOrder_reaches (.lane l) (fun x u hu => mapAged_outlives (expire_outlives x u) hu)
        (fun x u hu => laneAged_outlives (expire_outlives x u) hu) (fun _ hu => laneAged_expires hu) (fun _ _ hu => hu)
        (fun _ _ hu => hu) _ _ _ le_rfl (by simp [State.expiries, hx]) haged
    · refine inFreeOrder_keeps (J := fun u => u.laneAged l) (fun x u hu => laneAged_outlives (expire_outlives x u) hu)
        (fun _ _ hu => hu) _ _ _ ⟨haged, fun f hf => ?_⟩
      rw [older_lane] at hf
      obtain ⟨e', he', rfl⟩ := Option.map_eq_some_iff.mp hf
      exact Lane.sound_older (h.1 l e' he') (by simpa [he'] using hx)
  exact mapSound_carries.finish ⟨fun l e hl => (hlane l).2 e hl, (hlane 0).1.1⟩ he

/-! ### The lanes that a spout outside PARKED needs -/

/-- R58: the three lanes without which a spout stays PARKED. -/
def State.equipped (s : State) (i : SpoutId) : Prop :=
  (s.laneOf i .force).isSome = true ∧ (s.laneOf i .gate).isSome = true ∧ (s.laneOf i .air).isSome = true

theorem equipped_of_configured (h : s.configured i = true) : s.equipped i := by
  simp only [State.configured, Bool.and_eq_true, and_assoc] at h
  exact h.2

/-- A spout runs no step but in ZEROING, and outside PARKED only where `C` holds. -/
def Spout.basedOn (C : Prop) (p : Spout) : Prop := p.stepSound ∧ (p.ctl.state ≠ .parked → C)

namespace Spout

variable {p q : Spout} {C : Prop}

theorem basedOn_congr (h : p.basedOn C) (hst : q.ctl.state = p.ctl.state := by rfl)
    (hstep : q.zero.step.isSome = p.zero.step.isSome := by rfl) : q.basedOn C := by
  rw [basedOn, stepSound, hst, hstep]
  exact h

theorem basedOn_enter {st : SpoutState} (hC : C) (hst : st ≠ .zeroing) (hstep : p.zero.step = none) : (p.enter st).basedOn C :=
  ⟨stepSound_enter hst hstep, fun _ => hC⟩

theorem basedOn_move {st : SpoutState} (h : p.basedOn C) (hz : p.ctl.state ≠ .zeroing) (hp : p.ctl.state ≠ .parked)
    (hst : st ≠ .zeroing) : (p.enter st).basedOn C :=
  basedOn_enter (h.2 hp) hst (stepSound_none h.1 hz)

end Spout

theorem basedOn_rests (C : Prop) : Rests (Spout.basedOn C) fun _ => C where
  stepSound _ h := h.1
  marked _ _ e h := marked_of_unmarked (fun _ => rfl) e h
  toRest _ _ hst hstep hC := Spout.basedOn_enter hC hst.1 hstep
  toStep _ _ hC := ⟨Spout.stepSound_startStep _, fun _ => hC⟩
  atRest _ hp _ _ h := h.2 hp
  released _ hp h := h.2 hp
  giveUp _ h := h
  enter _ _ h := h
  zeroWork _ _ _ _ _ h := h
  parts _ _ _ _ h := h
  tail _ _ _ _ _ h := h
  unstuck _ h := h
  close _ _ _ _ h := h
  queue _ _ _ _ h := h
  requeue _ _ _ h := h
  reorigin p st origin hs h := Spout.basedOn_congr h rfl (by simp [hs])
  proceed _ _ h := h
  opened _ _ _ _ hC := Spout.basedOn_enter hC (by simp) rfl

theorem basedOn_readsNoZero (C : Prop) : ReadsNoZero (Spout.basedOn C) fun _ => C where
  rest _ _ h := h
  run _ _ hz h := Spout.basedOn_congr h rfl hz

theorem Spout.basedOn_openGate {p : Spout} {C : Prop} (hst : p.ctl.state = .awaitAir) (h : p.basedOn C) : p.openGate.basedOn C := by
  have hstep : p.zero.step = none := stepSound_none h.1 (by simp [hst])
  have hC : C := h.2 (by simp [hst])
  refine ⟨?_, fun _ => hC⟩
  cases hphase : p.ctl.resumePhase.getD .coarse <;> simp [stepSound, hstep, hphase, Phase.state]

theorem loads_basedOn {C : SpoutId → Prop} (hC : ∀ i, s.configured i = true → C i) :
    Loads s (fun i p => p.basedOn (C i)) fun i _ => C i where
  rests _ := basedOn_rests _
  zeroMoves _ := (basedOn_readsNoZero _).zeroMoves (basedOn_rests _)
  takeGrant _ _ _ h := h
  openGate _ _ hst _ h := Spout.basedOn_openGate hst h
  enterAwait _ p hst h := Spout.basedOn_congr (Spout.basedOn_move h (st := .awaitAir) (by simp [hst]) (by simp [hst]) (by simp))
  resumeWaits _ hst h := Spout.basedOn_congr (Spout.basedOn_move h (st := .awaitAir) (by simp [hst]) (by simp [hst]) (by simp))
  acceptForce _ _ _ h := h
  countMissed _ _ h := h
  starveChannel _ _ h := h
  workGood _ p raw hs _ h := by
    obtain ⟨range, alerts, e⟩ := Logs.watchRange_chan raw hs p
    rw [Spout.workGood, e]
    exact h
  workFill _ _ h := h
  countDuration _ p h := by unfold Spout.countDuration; split <;> exact h
  enterFineBand _ p hst h := Spout.basedOn_move h (st := .fine) (by simp [hst]) (by simp [hst]) (by simp)
  floodDrop _ p hst h := Spout.basedOn_congr (Spout.basedOn_move h (st := .fine) (by simp [hst]) (by simp [hst]) (by simp))
  tickFlood _ _ _ _ _ h := h
  countPacing _ p h := by
    unfold Spout.countPacing
    split
    · exact Spout.pace_rule (fun _ => h) fun _ _ _ => h
    · exact h
  pace _ _ h := Spout.pace_rule (fun _ => h) fun _ _ _ => h
  tickAirLost _ _ _ _ _ h := h
  tickPressure _ _ _ _ h := h
  tickStuck _ _ _ _ h := h
  tickTail _ _ _ _ _ h := h
  countReport _ p h := by unfold Spout.countReport; split <;> exact h
  reportExpires _ _ h := h
  setParam i q v _ h := by
    cases q <;> try exact h
    case minOpening =>
      simp only [Spout.setParam, Spout.setMinOpening]
      split <;> exact h
    case zeroMode => exact ReadsNoZero.setCadence (basedOn_rests _) (basedOn_readsNoZero _) _ h
  written _ _ _ _ _ h := h
  failSwitch _ _ h := h
  deferSwitch _ _ _ h := h
  switchNow _ _ _ h := h
  mapForce _ _ h := h
  woken i _ _ _ hconf _ := hC i hconf
  append _ _ _ h := h
  restart _ p _ := by
    simp [Spout.basedOn, Spout.stepSound, Spout.restart, Spout.reset, ZeroTracker.restart, ZeroTracker.reset,
      Control.restart, Control.reset]
  reset _ := by simp [Spout.basedOn, Spout.stepSound, Spout.reset, ZeroTracker.reset, Control.reset]

/-! ### The mappings that a command keeps -/

/-- Every lane of the spout is in the other map too, of the same role. -/
def State.keepsLanes (s u : State) (i : SpoutId) : Prop :=
  ∀ l e, s.lane l = some e → e.spout = i → ∃ e', u.lane l = some e' ∧ e'.spout = i ∧ e'.role = e.role

theorem equipped_of_keepsLanes (h : s.keepsLanes u i) (he : s.equipped i) : u.equipped i := by
  have hrole : ∀ r, (s.laneOf i r).isSome = true → (u.laneOf i r).isSome = true := fun r hr => by
    obtain ⟨l, hl⟩ := Option.isSome_iff_exists.mp hr
    obtain ⟨e, he, hs, hr⟩ := laneOf_some hl
    obtain ⟨e', he', hs', hr'⟩ := h l e he hs
    cases hx : u.laneOf i r with
    | some m => rfl
    | none => exact absurd (hr'.trans hr) (laneOf_none_iff.mp hx l e' he' hs')
  exact ⟨hrole _ he.1, hrole _ he.2.1, hrole _ he.2.2⟩

/-- Every mapping of the one map is in the other. -/
def State.keepsMap (s u : State) : Prop :=
  ∀ l e, s.lane l = some e → ∃ e', u.lane l = some e' ∧ e'.spout = e.spout ∧ e'.role = e.role

theorem keepsMap_refl (s : State) : s.keepsMap s := fun _ e he => ⟨e, he, rfl, rfl⟩

theorem keepsMap_of_device (hd : v.device = u.device) (h : s.keepsMap u) : s.keepsMap v := fun l e he => by
  rw [lane_of_device hd]
  exact h l e he

theorem keepsMap_trans (h : s.keepsMap u) (h' : u.keepsMap v) : s.keepsMap v := fun l e he => by
  obtain ⟨e', he', hs, hr⟩ := h l e he
  obtain ⟨e'', he'', hs', hr'⟩ := h' l e' he'
  exact ⟨e'', he'', hs'.trans hs, hr'.trans hr⟩

theorem keepsMap_of_map {k : LaneId → Lane → Lane} (hk : ∀ l, v.lane l = (u.lane l).map (k l))
    (hs : ∀ l e, u.lane l = some e → (k l e).spout = e.spout ∧ (k l e).role = e.role) : u.keepsMap v := fun l e he =>
  ⟨k l e, by rw [hk, he]; rfl, hs l e he⟩

theorem keepsMap_acts (s : State) : Acts s.keepsMap where
  toSpoutMoves := SpoutMoves.of_device fun _ _ => keepsMap_of_device
  silenceK _ _ _ h := h
  grantLower _ _ _ _ h := h
  grantRaise _ _ _ _ h := keepsMap_of_device (grantDecision_device _) h
  address _ _ _ h := h
  clearCounters u ls h := by
    refine keepsMap_trans h fun l e he => ?_
    obtain ⟨k, hk, hm⟩ := clearCounters_lane_steady ls u l
    exact ⟨k e, by rw [hm, he]; rfl, (hk e).1, (hk e).2.1⟩
  window _ _ _ _ _ h := h
  cursor _ _ _ _ _ h := h
  closeWindow _ h := h
  mapLane u l i r fwd hl _ h := by
    refine keepsMap_trans h fun m e he => ?_
    rw [lane_setLane, if_neg fun hm => by rw [hm, hl] at he; cases he]
    exact ⟨e, he, rfl, rfl⟩
  chain _ _ _ h := h
  join _ _ _ _ h := h

theorem keepsMap_restartNow (u : State) : u.keepsMap (restartNow u) :=
  keepsMap_of_map (k := fun _ => Lane.restart) (restartNow_lane u) fun _ _ _ => ⟨rfl, rfl⟩

theorem keepsMap_courses (s : State) : Courses s.keepsMap s.keepsMap where
  toSpoutMoves := SpoutMoves.of_device fun _ _ => keepsMap_of_device
  lane u l k hk h := by
    refine keepsMap_trans h (keepsMap_of_map (k := fun m => if m = l then k else id) (fun m => ?_) fun m e he => ?_)
    · rw [lane_updLane]
      split
      · next hm => rw [hm]
      · simp
    · split
      · next hm => exact ⟨(hk e (hm ▸ he)).1, (hk e (hm ▸ he)).2.1⟩
      · exact ⟨rfl, rfl⟩
  framing _ h := h
  toPlant _ run h := by unfold passToPlant; split <;> exact h
  silent _ h := h
  silenceMark _ _ h := h
  acts := keepsMap_acts s
  taken _ _ _ h := h
  replied u _ _ h := keepsMap_of_device (u := u.awoken) (v := noteAccepted u) (noteAccepted_device u) h
  restarting u _ _ _ _ h :=
    have hd := noteAccepted_device { u with restartPending := true }
    keepsMap_of_device (u := ({ u with restartPending := true } : State).awoken)
      (v := noteAccepted { u with restartPending := true }) hd h
  crc _ h := h
  requestOverrun _ h := h
  toField _ run h := by unfold passToField; split <;> exact h
  servePlant _ h := servePlant_rule h (fun _ _ _ _ => h) (fun _ _ _ _ => h) fun _ _ _ _ _ _ _ _ => h
  sendField _ _ _ _ h := h
  freeField _ h := h
  endPlant u h := by
    unfold endPlantFrame
    split
    · exact keepsMap_trans h (keepsMap_restartNow { u with plantLine := none })
    · exact h
    · exact h

/-! ### What the arbiters and an accepted request leave of a spout -/

theorem upd_unmarked {k : Spout → Spout} (hk : ∀ p, (k p).unmarked = p.unmarked) (j : SpoutId) :
    ((s.upd i k).spout j).unmarked = (s.spout j).unmarked := by
  rw [spout_upd]
  split
  · next e => rw [hk, e]
  · rfl

theorem sendSpoutAlert_unmarked (k : AlertKind) (j : SpoutId) : ((sendSpoutAlert i k s).spout j).unmarked = (s.spout j).unmarked :=
  upd_unmarked (k := fun p => { p with alerts := p.alerts.set k.index p.alerts[k.index].taken }) (fun _ => rfl) j

theorem sendReport_unmarked (j : SpoutId) : ((sendReport i s).spout j).unmarked = (s.spout j).unmarked :=
  upd_unmarked (k := fun p => { p with reportDue := false }) (fun _ => rfl) j

theorem chooseMark_unmarked (s : State) (j : SpoutId) : ((chooseMark s).spout j).unmarked = (s.spout j).unmarked := by
  unfold chooseMark
  split
  · exact sendSpoutAlert_unmarked _ j
  · split
    · rfl
    · split
      · rfl
      · split
        · exact sendReport_unmarked j
        · rfl

theorem servePlant_unmarked (s : State) (j : SpoutId) : ((servePlant s).spout j).unmarked = (s.spout j).unmarked := by
  unfold servePlant
  split
  · rfl
  · split
    · rfl
    · split
      · rfl
      · exact chooseMark_unmarked s j

theorem chooseField_unmarked (is : List SpoutId) (s : State) (j : SpoutId) :
    ((chooseField is s).spout j).unmarked = (s.spout j).unmarked := by
  induction is generalizing s with
  | nil => unfold chooseField sendFieldPass; split <;> rfl
  | cons i rest ih =>
    have hupd : ∀ seq : Spout → Byte, ((s.upd i fun p => { p with gatePending := false, orderSeq := seq p }).spout j).unmarked =
        (s.spout j).unmarked := fun seq =>
      upd_unmarked (k := fun p => { p with gatePending := false, orderSeq := seq p }) (fun _ => rfl) j
    unfold chooseField
    split
    · split
      · exact hupd fun p => p.orderSeq + 1
      · exact (ih _).trans (hupd fun p => p.orderSeq)
    · exact ih s

/-- R165, R166: the arbiters take marks, flags and gate orders, and leave everything else of a spout. -/
theorem serveLines_unmarked (s : State) (j : SpoutId) : ((serveLines s).spout j).unmarked = (s.spout j).unmarked := by
  unfold serveLines serveField
  split
  · exact servePlant_unmarked s j
  · exact (chooseField_unmarked _ _ j).trans (servePlant_unmarked s j)

theorem serveLines_state (s : State) (j : SpoutId) : ((serveLines s).spout j).ctl.state = (s.spout j).ctl.state := by
  have h := congrArg Spout.ctl (serveLines_unmarked s j)
  exact congrArg Control.state h

theorem Spout.regranted_state {p q : Spout} (h : p.regranted q) (hst : p.ctl.state ≠ .awaitAir) : q.ctl.state = p.ctl.state := by
  rcases h with rfl | ⟨-, rfl | ⟨hawait, -⟩⟩
  · rfl
  · rfl
  · exact absurd hawait hst

/-- R170: a spout in PARKED is not among those that the clearing of the flag releases. -/
theorem noteAccepted_parked {s : State} {i : SpoutId} (h : (s.spout i).ctl.state = .parked) :
    ((noteAccepted s).spout i).ctl.state = .parked := by
  cases hs : s.silent with
  | false => rw [noteAccepted_of_not_silent hs]; exact h
  | true =>
    by_cases hx : ∃ j, s.awoken.releasable j = true
    · have hi : ¬ s.awoken.releasable i = true := fun hr => by simp [(awoken_releasable_iff.mp hr).1] at h
      have hp : (s.awoken.allJoined.spout i).ctl.state = .parked := by
        rw [allJoined_spout_of_not_releasable hi]
        exact h
      rw [noteAccepted_of_exists hs hx, Spout.regranted_state (grantDecision_regrants _ i) (by simp [hp]), hp]
    · rw [noteAccepted_of_none hs (not_exists.mp hx)]
      exact h

/-- R150: a refused UNMAP_LANE leaves the state; a taken one takes the entry of a spout in PARKED, and no other. -/
theorem unmapLaneAct_eq (ps : List Byte) (s : State) :
    ∃ u st d, unmapLaneAct ps s = Act.only u st d ∧ (u = s ∨ ∃ l e, s.lane l = some e ∧
      (s.spout e.spout).ctl.state = .parked ∧ u = unmapLane l e s) := by
  unfold unmapLaneAct
  split
  · exact ⟨s, _, _, rfl, .inl rfl⟩
  · split
    · exact ⟨s, _, _, rfl, .inl rfl⟩
    · next l _ =>
      split
      · exact ⟨s, _, _, rfl, .inl rfl⟩
      · next e he =>
        split
        · exact ⟨s, _, _, rfl, .inl rfl⟩
        · next hst => exact ⟨_, _, _, rfl, .inr ⟨l, e, he, not_not.mp hst, rfl⟩⟩

theorem unmapLane_lane (l m : LaneId) (e : Lane) (s : State) :
    (unmapLane l e s).lane m = if m = l then none else s.lane m := by
  unfold unmapLane
  dsimp only
  split
  · exact lane_setLane l m none s
  · exact lane_setLane l m none s

theorem unmapLane_state (l : LaneId) (e : Lane) (s : State) (i : SpoutId) :
    ((unmapLane l e s).spout i).ctl.state = (s.spout i).ctl.state := by
  unfold unmapLane
  dsimp only
  split
  · rw [dropGateOrder, spout_upd]
    split
    · next hi => rw [hi]; rfl
    · rfl
  · rfl

/-- R150: after an UNMAP_LANE every spout outside PARKED has the lanes that it had. -/
theorem keepsLanes_unmapTaken (s : State) :
    Courses.unmapTaken (fun u => ∀ i, (u.spout i).ctl.state ≠ .parked → s.keepsLanes u i) s := by
  intro number code ps _ _ i hi
  obtain ⟨u, st, d, hact, hu⟩ := unmapLaneAct_eq ps s
  have hparked : (u.spout i).ctl.state ≠ .parked := fun hp => hi (by
    rw [acceptRequest, hact]
    exact noteAccepted_parked hp)
  have hlane : ∀ m, (acceptRequest number code (unmapLaneAct ps) s).lane m = u.lane m := fun m => by
    rw [acceptRequest, hact]
    exact lane_of_device (s := u.awoken) (noteAccepted_device u) m
  intro m f hf hs
  rw [hlane]
  rcases hu with rfl | ⟨l, e, he, hst, rfl⟩
  · exact ⟨f, hf, hs, rfl⟩
  · have hm : m ≠ l := fun hml => by
      subst hml
      cases he.symm.trans hf
      rw [unmapLane_state, ← hs] at hparked
      exact hparked hst
    exact ⟨f, by rw [unmapLane_lane, if_neg hm]; exact hf, hs, rfl⟩

theorem lane_serveLines (s : State) : s.keepsMap (serveLines s) := (keepsMap_courses s).serveLines (keepsMap_refl s)

/-- R58, R150: every step leaves a spout outside PARKED the lanes that it had. -/
theorem keepsLanes_step (he : step s = .next t) (hi : (t.spout i).ctl.state ≠ .parked) : s.keepsLanes t i := by
  have hfinish : ∀ u, finish u = .next t → ((u.spout i).ctl.state ≠ .parked → s.keepsLanes u i) → s.keepsLanes t i :=
    fun u e hu l f hf hs => by
      cases e
      rw [serveLines_state] at hi
      obtain ⟨f', hf', hs', hr'⟩ := hu hi l f hf hs
      obtain ⟨f'', hf'', hs'', hr''⟩ := lane_serveLines u l f' hf'
      exact ⟨f'', hf'', hs''.trans hs', hr''.trans hr'⟩
  have hlanes : ∀ u, s.keepsMap u → ∀ j, s.keepsLanes u j := fun u hu j l f hf hs => by
    obtain ⟨f', hf', hs', hr'⟩ := hu l f hf
    exact ⟨f', hf', hs'.trans hs, hr'⟩
  unfold step at he
  split at he
  · next c rest _ =>
    have hqueue : s.keepsMap { s with pending := rest } := keepsMap_refl s
    obtain ⟨u, hc, hu⟩ := (keepsMap_courses s).exec_reaches
      (R := fun u => ∀ j, (u.spout j).ctl.state ≠ .parked → s.keepsLanes u j) (fun u hu j _ => hlanes u hu j) c
      (keepsLanes_unmapTaken { s with pending := rest })
      (fun _ j hj => absurd (by rw [powerOn_spout]; rfl) hj) hqueue
    exact hfinish u (hc ▸ he) (hu i)
  · have E := (keepsMap_courses s).toEvents
    have holder : s.keepsMap s.older := keepsMap_of_map (k := fun _ => Lane.older) (older_lane s) fun _ _ _ => ⟨rfl, rfl⟩
    exact hfinish _ he fun _ => hlanes _ (E.inFreeOrder _ (fun x _ hu => E.expire x hu) _ _ holder) i

end Sys2Proof.Machine

namespace Sys2Proof.Settled

open Sys2Proof.Machine

/-- Settles O14: entries change only by mapping, which asks for a free role, and by unmapping, which asks for PARKED; a spout leaves
PARKED only with its three lanes; and a lane is stale exactly from the millisecond on which its age comes to its limit. -/
theorem lanesKept : Obligations.LanesKept := by
  rintro s t ⟨hstep, hlanes, hroles, hneeds⟩ he
  have hmap : t.mapSound := by
    have h : s.mapSound := ⟨hlanes, hroles⟩
    unfold step at he
    split at he
    · next c rest _ => exact mapSound_carries.exec c (s := { s with pending := rest }) h he
    · exact mapSound_tick h he
  have hbased : ∀ i, (t.spout i).basedOn (s.equipped i) := by
    have hbefore : ∀ i, (s.spout i).basedOn (s.equipped i) := fun i => ⟨hstep i, hneeds i⟩
    unfold step at he
    split at he
    · next c rest _ =>
      exact (loads_basedOn (s := { s with pending := rest }) fun i => equipped_of_configured).keeps.exec c hbefore he
    · exact (loads_basedOn fun i => equipped_of_configured).keeps.tick hbefore he
  refine ⟨fun i => (hbased i).1, hmap.1, hmap.2, fun i hi => ?_⟩
  exact equipped_of_keepsLanes (keepsLanes_step he hi) ((hbased i).2 hi)

end Sys2Proof.Settled
end

section
/-! PROOFS. The machine itself: a step runs the front command, every command answers and leaves the queue of waiting commands
alone, and the reset state meets every invariant (R77, R159, R175, R176). -/

set_option Elab.async false

namespace Sys2Proof.Machine

variable {s u v : State}

/-! ### The queue of waiting commands -/

/-- The queue of waiting commands is `cs`. -/
def State.waits (cs : List Instr) (s : State) : Prop := s.pending = cs

theorem waits_of_device {cs : List Instr} (hd : v.device = u.device) (h : u.waits cs) : v.waits cs :=
  (pending_of_device hd).trans h

theorem waits_acts (cs : List Instr) : Acts (State.waits cs) where
  toSpoutMoves := SpoutMoves.of_device fun _ _ => waits_of_device
  silenceK _ _ _ h := h
  grantLower _ _ _ _ h := h
  grantRaise _ _ _ _ h := waits_of_device (grantDecision_device _) h
  address _ _ _ h := h
  clearCounters _ _ h := by rw [clearCounters_eq]; exact h
  window _ _ _ _ _ h := h
  cursor _ _ _ _ _ h := h
  closeWindow _ h := h
  mapLane _ _ _ _ _ _ _ h := h
  chain _ _ _ h := h
  join _ _ _ _ h := h

theorem waits_carries (cs : List Instr) : Carries (State.waits cs) (State.waits cs) where
  toSpoutMoves := SpoutMoves.of_device fun _ _ => waits_of_device
  lane _ _ _ _ h := h
  framing _ h := h
  toPlant _ run h := by unfold passToPlant; split <;> exact h
  silent _ h := h
  silenceMark _ _ h := h
  acts := waits_acts cs
  taken _ _ _ h := h
  replied u _ _ h := waits_of_device (u := u.awoken) (v := noteAccepted u) (noteAccepted_device u) h
  restarting u _ _ _ _ h :=
    waits_of_device (u := ({ u with restartPending := true } : State).awoken)
      (v := noteAccepted { u with restartPending := true }) (noteAccepted_device _) h
  crc _ h := h
  requestOverrun _ h := h
  toField _ run h := by unfold passToField; split <;> exact h
  servePlant _ h := servePlant_rule h (fun _ _ _ _ => h) (fun _ _ _ _ => h) fun _ _ _ _ _ _ _ _ => h
  sendField _ _ _ _ h := h
  freeField _ h := h
  endPlant _ h := by unfold endPlantFrame; split <;> exact h
  unmapLane _ _ h := h
  powerOn _ h := h

/-! ### The reset state -/

@[simp] theorem reset_spout (i : SpoutId) : State.reset.spout i = Spout.reset := PerSpout.get_all _ i

@[simp] theorem reset_lane (l : LaneId) : State.reset.lane l = none := by simp [State.reset, State.lane]

theorem linkSound_reset : State.reset.linkSound :=
  linkSound_fresh rfl rfl rfl rfl rfl rfl rfl (le_refl 15) rfl fun _ e => by cases e

theorem grantsSound_reset : State.reset.grantsSound :=
  ⟨by decide, by decide, by decide, fun ⟨i, hi⟩ => by rw [reset_spout] at hi; cases hi⟩

theorem lanesSound_reset : State.reset.lanesSound := by
  refine ⟨fun i => ?_, fun l e he => ?_, fun l m e f he => ?_, fun i hi => ?_⟩
  · rw [reset_spout]
    exact Spout.recordSound_reset.1
  · rw [reset_lane] at he; cases he
  · rw [reset_lane] at he; cases he
  · rw [reset_spout] at hi
    exact absurd rfl hi

theorem storeSound_reset : State.reset.storeSound :=
  ⟨pooled_emptied fun i => by rw [reset_spout]; rfl, fun i => by rw [reset_spout]; exact logs_ringSound.reset⟩

theorem invariants_reset (i : SpoutId) : (State.reset.spout i).recordSound ∧ (State.reset.spout i).airSound ∧
    (State.reset.spout i).demandSound ∧ (State.reset.spout i).curveSound ∧ (State.reset.spout i).meterSound ∧
    (State.reset.spout i).zeroSound ∧ (State.reset.spout i).runsSound ∧ (State.reset.spout i).queueSound := by
  rw [reset_spout]
  exact ⟨Spout.recordSound_reset, (loads_airSound State.reset).reset i, Spout.demandSound_reset,
    (loads_curveSound State.reset).reset i, Channel.sound_reset, Spout.zeroSound_reset, Spout.runsSound_reset,
    Spout.queueSound_iff.mpr ((keeps_queueSound State.reset).reset i)⟩

end Sys2Proof.Machine

namespace Sys2Proof.Settled

open Sys2Proof.Machine

/-- Settles O1: with a command at the front, `step` is its first branch. -/
theorem stepRunsFrontCommand : Obligations.StepRunsFrontCommand := fun s c rest h => by rw [step, h]

/-- Settles O2: every row ends with the arbiters' choices, and no change of the device reaches the queue. -/
theorem everyCommandAnswers : Obligations.EveryCommandAnswers := fun c s => by
  obtain ⟨u, hu⟩ := exec_eq_finish c s
  exact ⟨serveLines u, hu, (waits_carries s.pending).exec c rfl hu⟩

/-- Settles O5: every invariant holds of a reset spout or of the reset device, whose fields are the Power-on columns. -/
theorem resetState : Obligations.ResetState := by
  refine ⟨⟨invariants_reset, storeSound_reset, linkSound_reset, ⟨by decide, fun n e => (by cases e), fun _ => rfl⟩,
    grantsSound_reset, lanesSound_reset, ⟨by decide, by decide, by decide, by decide⟩⟩, fun i => ?_, reset_lane, rfl, rfl, rfl, rfl,
    rfl, rfl, rfl, rfl, rfl, rfl, rfl, rfl, rfl⟩
  rw [reset_spout]
  exact ⟨rfl, rfl, rfl, rfl, rfl, rfl, rfl, rfl, rfl⟩

end Sys2Proof.Settled
end

section
/-! PROOFS. The operations that many commands share: alert marks (R168), the learning of tau (R93 to R95), the recording of a
result (R90), moving on (R72), entry to ZEROING (R40), the opening of a compartment (R61) and the entries that end a loading
(R64, R67, R73); and the settled statements about them. -/

set_option Elab.async false

namespace Sys2Proof.Machine

variable {s : State} {i : SpoutId} {p : Spout}

/-! ### Alert marks -/

theorem AlertMark.occur_of_clear {m : AlertMark} (h : m.pending = false) (d : Nat) : m.occur d = ⟨true, 1, d⟩ := by
  simp [AlertMark.occur, h]

theorem AlertMark.occur_again (n d d' : Nat) : AlertMark.occur ⟨true, min 15 n, d⟩ d' = ⟨true, min 15 (n + 1), d'⟩ := by
  simp [AlertMark.occur]
  omega

/-- R168: occurrences coalesce in the mark, one after another. -/
theorem foldl_raise (p : Spout) (k : AlertKind) (h : p.alerts[k.index].pending = false) (ds : List Nat) (d : Nat) :
    (ds ++ [d]).foldl (fun q x => q.raise k x) p =
      { p with alerts := p.alerts.set k.index ⟨true, min 15 (ds.length + 1), d⟩ } := by
  induction ds using List.reverseRecOn generalizing d with
  | nil => rw [List.nil_append, List.foldl_cons, List.foldl_nil, Spout.raise, AlertMark.occur_of_clear h]; rfl
  | append_singleton ds d' ih =>
    rw [List.foldl_append, ih, List.foldl_cons, List.foldl_nil]
    simp [Spout.raise, AlertMark.occur_again]

/-! ### Tau -/

/-- R95: gain sixteenths of a difference, rounded, are no more than the difference. -/
theorem sixteenths_le {d g : Nat} (hg : g ≤ 16) : (d * g + 8) / 16 ≤ d := by
  have h : d * g ≤ d * 16 := Nat.mul_le_mul_left d hg
  omega

theorem roundSixteenths_natCast (n : Nat) : roundSixteenths (n : Int) = ((n + 8) / 16 : Nat) := by
  simp [roundSixteenths]

theorem roundSixteenths_neg (n : Nat) : roundSixteenths (-(n : Int)) = -((n + 8) / 16 : Nat) := by
  cases n with
  | zero => rfl
  | succ n =>
    have h : ¬ (0 : Int) ≤ -((n + 1 : Nat) : Int) := by omega
    rw [roundSixteenths, if_neg h, neg_neg]
    norm_cast

/-- R95: a tau below the measured time moves up toward it. -/
theorem tauCorrected_up {tau m g : Nat} (h : tau ≤ m) (hm : m ≤ 4000) (hg : g ≤ 16) :
    tauCorrected tau m g = tau + ((m - tau) * g + 8) / 16 := by
  have hd := sixteenths_le (d := m - tau) hg
  have e : ((m : Int) - tau) * g = ((m - tau) * g : Nat) := by push_cast [Nat.cast_sub h]; rfl
  rw [tauCorrected, e, roundSixteenths_natCast, ← Nat.cast_add, Int.toNat_natCast, clamp_eq _ _ _ (by omega)]
  omega

/-- R95: a tau above the measured time moves down toward it. -/
theorem tauCorrected_down {tau m g : Nat} (h : m ≤ tau) (ht : tau ≤ 4000) (hg : g ≤ 16) :
    tauCorrected tau m g = tau - ((tau - m) * g + 8) / 16 := by
  have hd := sixteenths_le (d := tau - m) hg
  have e : ((m : Int) - tau) * g = -((tau - m) * g : Nat) := by push_cast [Nat.cast_sub h]; ring
  rw [tauCorrected, e, roundSixteenths_neg, ← sub_eq_add_neg, ← Nat.cast_sub (by omega), Int.toNat_natCast,
    clamp_eq _ _ _ (by omega)]
  omega

theorem tau_of_learned {path : RecordPath}
    (h : path = .tail false ∧ p.ctl.endReason = some .normal ∧ 500 ≤ p.ctl.flowAtClose) :
    path.tau p = tauCorrected p.ctl.tau (tauMeasured p.chan.massG p.ctl.massAtClose p.ctl.flowAtClose) p.par.gain := by
  obtain ⟨rfl, hreason, hflow⟩ := h
  simp [RecordPath.tau, RecordPath.endReason, hreason, Spout.tauAfterTail, Spout.learns, hflow]

theorem tau_of_not_learned {path : RecordPath}
    (hpath : path = .aborted ∨ path = .faulted ∨ p.ctl.endReason.isSome = true)
    (h : ¬ (path = .tail false ∧ p.ctl.endReason = some .normal ∧ 500 ≤ p.ctl.flowAtClose)) : path.tau p = p.ctl.tau := by
  cases path with
  | aborted => rfl
  | faulted => rfl
  | tail timedOut =>
    obtain ⟨reason, hreason⟩ := Option.isSome_iff_exists.mp (by simpa using hpath)
    have hno : ¬ p.learns reason timedOut = true := fun hl => h (by
      simp only [Spout.learns, Bool.and_eq_true, beq_iff_eq, Bool.not_eq_true', decide_eq_true_eq] at hl
      obtain ⟨⟨rfl, rfl⟩, hflow⟩ := hl
      exact ⟨rfl, hreason, hflow⟩)
    simp [RecordPath.tau, RecordPath.endReason, hreason, Spout.tauAfterTail, hno]

/-! ### Recording and moving on -/

theorem examineZeroing_of_not_due (h : ¬ p.zeroingDue = true) : p.examineZeroing = p := by
  rw [Spout.examineZeroing, if_neg h]

theorem examineZeroing_of_due (h : p.zeroingDue = true) :
    p.examineZeroing = p.startStep (if p.zero.makeupOwed then .makeup else .normal) := by
  rw [Spout.examineZeroing, if_pos h]

theorem zeroingDue_iff : p.zeroingDue = true ↔ (p.ctl.state = .idle ∨ p.ctl.state = .ready) ∧ p.zero.retryWait = none ∧
    (p.zero.makeupOwed = true ∨ 1 ≤ p.zero.owed) := by
  simp only [Spout.zeroingDue, Bool.and_eq_true, Bool.or_eq_true, beq_iff_eq, decide_eq_true_eq, Option.isNone_iff_eq_none,
    and_assoc]
  rfl

theorem moveOn_of_empty (h : p.queue = []) : p.moveOn = (p.enter .idle).examineZeroing := by
  simp [Spout.moveOn, h, Spout.settle]

theorem moveOn_of_left {o : Order} {rest : List Order} (h : p.queue = o :: rest) (hleft : o.nextIndex ≤ o.targets.length)
    (ha : o.aborted = false) : p.moveOn = (p.enter .ready).examineZeroing := by
  simp [Spout.moveOn, h, Spout.settle, Order.hasLeft, hleft, ha]

theorem moveOn_of_done {o : Order} {rest : List Order} (h : p.queue = o :: rest)
    (hdone : o.targets.length < o.nextIndex ∨ o.aborted = true) :
    p.moveOn = ((p.retireHead (if o.aborted then 2 else 1)).enter (if rest = [] then .idle else .ready)).examineZeroing := by
  have hno : ¬ (o.hasLeft = true ∧ (!o.aborted) = true) := by
    rcases hdone with hd | ha
    · simp [Order.hasLeft, hd]
    · simp [ha]
  have hq : (p.retireHead (if o.aborted then 2 else 1)).queue = rest := by simp [Spout.retireHead, h]
  rw [Spout.moveOn, h]
  simp only [if_neg hno, Spout.settle, hq, List.isEmpty_iff]

theorem abandonStep_of_none (h : (s.spout i).zero.step = none) : abandonStep i s = s := by
  have hp : (s.spout i).abandonStep = s.spout i := by rw [Spout.abandonStep, h]
  rw [abandonStep, upd_congr s i (g := fun p => p) hp, upd_id]

/-! ### The opening of a compartment -/

theorem examineArmed_of_not (h : ¬ ((s.spout i).ctl.state = .armed ∧ s.permitted i = true)) : examineArmed i s = s := by
  rw [examineArmed, if_neg h]

theorem examineArmed_of_permitted (h : (s.spout i).ctl.state = .armed ∧ s.permitted i = true) :
    examineArmed i s = grantDecision (s.upd i fun p => (p.enter .awaitAir).becomeWaiter) := by
  rw [examineArmed, if_pos h, askForAir, enter, upd_upd]

theorem openCompartment_spout {o : Order} {rest : List Order} (h : (s.spout i).queue = o :: rest) :
    s.upd i Spout.openCompartment = s.upd i fun _ => (s.spout i).openWith o rest :=
  upd_congr s i (by simp [Spout.openCompartment, h])

/-! ### The entries that end a loading -/

theorem Spout.shutGate_place (p : Spout) : p.shutGate.place = p.place := by unfold Spout.shutGate; split <;> rfl

theorem Spout.recordResult_place (p : Spout) (path : RecordPath) : (p.recordResult path).place = p.place := by
  unfold Spout.recordResult Spout.raiseSwitchAtEnd
  split
  · rfl
  · split <;> rfl

theorem Spout.fault_place (p : Spout) (kind : FaultKind) : (p.fault kind).place = p.place :=
  Spout.recordResult_place p.dropZeroWork .faulted

/-- R105, R142: the gate shuts and the grant or waiter place is given up. -/
theorem giveUpAir_shutGate (p : Spout) : p.shutGate.giveUpAir =
    { p with place := .neither, gatePending := p.orderOnRelease,
             ctl := { p.ctl.shut with pressureWait := p.waitOnRelease } } := by
  obtain ⟨chan, curve, zero, ctl, par, queue, ring, number, place, alerts, due, count, gate, seq⟩ := p
  cases hg : ctl.state.gateOpen <;> cases place <;>
    simp [Spout.shutGate, Spout.giveUpAir, Spout.orderOnRelease, Spout.waitOnRelease, Control.shut, hg]

theorem Control.shut_openComp (c : Control) : c.shut.openComp = c.openComp := by unfold Control.shut; split <;> rfl

theorem recordResult_of_none {path : RecordPath} (h : p.ctl.openComp = none) : p.recordResult path = p := by
  rw [Spout.recordResult, h]

theorem enterHeld_eq (r : HeldReason) : enterHeld r i s = s.released i ((s.spout i).shutGate.giveUpAir.becomeHeld r) :=
  release_released s i Spout.shutGate (Spout.becomeHeld r) Spout.shutGate_place fun _ => rfl

theorem enterTailing_eq (r : EndReason) :
    enterTailing r i s = s.released i ((s.spout i).shutGate.giveUpAir.becomeTailing r) :=
  release_released s i Spout.shutGate (Spout.becomeTailing r) Spout.shutGate_place fun _ => rfl

theorem enterFault_eq {k : FaultKind} (hp : (s.spout i).ctl.state ≠ .parked) (hf : (s.spout i).ctl.state ≠ .faulted) :
    enterFault k i s = s.released i ((s.spout i).shutGate.giveUpAir.fault k) := by
  rw [enterFault, if_neg (not_or.mpr ⟨hp, hf⟩)]
  exact release_released s i Spout.shutGate (Spout.fault k) Spout.shutGate_place fun p => Spout.fault_place p k

theorem enterFault_of_exempt {k : FaultKind} (h : (s.spout i).ctl.state = .parked ∨ (s.spout i).ctl.state = .faulted) :
    enterFault k i s = s := by
  rw [enterFault, if_pos h]

end Sys2Proof.Machine

namespace Sys2Proof.Settled

open Sys2Proof.Machine

/-- Settles O15, by induction on the occurrences from the last. -/
theorem alertsCoalesce : Obligations.AlertsCoalesce := fun p k ds d h => foldl_raise p k h ds d

/-- Settles O21: the rounded step toward the measured time, up or down, is no longer than the difference. -/
theorem tauLearned : Obligations.TauLearned := by
  intro p path
  refine ⟨fun hpath hno => tau_of_not_learned hpath hno, fun hlearned ht hg => ?_⟩
  have hmeasured : min 4000 ((2 * (p.chan.massG - p.ctl.massAtClose) * 40 + p.ctl.flowAtClose) / (2 * p.ctl.flowAtClose)) =
      tauMeasured p.chan.massG p.ctl.massAtClose p.ctl.flowAtClose := by rw [tauMeasured, Nat.mul_assoc]
  rw [hmeasured, tau_of_learned hlearned]
  have hm : tauMeasured p.chan.massG p.ctl.massAtClose p.ctl.flowAtClose ≤ 4000 := Nat.min_le_left ..
  generalize tauMeasured p.chan.massG p.ctl.massAtClose p.ctl.flowAtClose = m at hm
  have hup := fun h : p.ctl.tau ≤ m => tauCorrected_up h hm hg
  have hdown := fun h : m ≤ p.ctl.tau => tauCorrected_down h ht hg
  have hlup := sixteenths_le (d := m - p.ctl.tau) hg
  have hldown := sixteenths_le (d := p.ctl.tau - m) hg
  refine ⟨?_, fun h0 => ?_, fun h16 => ?_, hup, hdown⟩ <;> rcases le_total p.ctl.tau m with h | h
  · rw [hup h]; omega
  · rw [hdown h]; omega
  · rw [hup h, h0]; simp
  · rw [hdown h, h0]; simp
  · rw [hup h, h16]; omega
  · rw [hdown h, h16]; omega

/-- Settles O20: the steps of the recording, read off in one record. -/
theorem resultRecorded : Obligations.ResultRecorded := by
  refine ⟨fun p c path hc => ?_, fun c hv => ⟨fun h => ?_, fun h => ?_⟩⟩
  · rw [Spout.recordResult, hc]
    cases hx : p.curve.exchangePending with
    | false => simp only [Spout.raiseSwitchAtEnd, hx, Spout.closeCompartment, Spout.result]; rfl
    | true => simp only [Spout.raiseSwitchAtEnd, hx, Spout.closeCompartment, Spout.result]; rfl
  · simp [CurveStore.exchange, CurveStore.standby, h, hv, Bank.other, CurveStore.setStatus]
  · simp [CurveStore.exchange, CurveStore.standby, h, hv, Bank.other, CurveStore.setStatus]

/-- Settles O22: the head order's compartments and aborted flag decide. -/
theorem movingOn : Obligations.MovingOn := fun p =>
  ⟨fun h => moveOn_of_empty h, fun _ _ h hleft ha => moveOn_of_left h hleft ha, fun o rest h hdone => by
    rw [moveOn_of_done h hdone]
    cases rest <;> simp [Spout.retireHead, Spout.raise, Spout.enter, SpoutState.stuckExempt, AlertKind.index, h]⟩

/-- Settles O16: R40's condition is `zeroingDue`, and an abandoned step returns to its origin. -/
theorem zeroStepEntryAndAbandonment : Obligations.ZeroStepEntryAndAbandonment := by
  refine ⟨fun p => ⟨fun h => examineZeroing_of_not_due (mt zeroingDue_iff.mp h), fun h => ?_⟩,
    fun s i => ⟨abandonStep_of_none, fun st hst => upd_congr s i ?_⟩⟩
  · rw [examineZeroing_of_due (zeroingDue_iff.mpr h)]
    cases hm : p.zero.makeupOwed <;> cases hc : p.zero.cadence <;>
      simp [Spout.startStep, Spout.enter, SpoutState.stuckExempt, stepLength, Cadence.stepsPerSet, hc]
  · obtain ⟨kind, origin, taken, sum, length, band⟩ := st
    cases origin <;> simp [Spout.abandonStep, Spout.endStep, hst, Spout.enter, Origin.state, SpoutState.stuckExempt]

/-- Settles O18: the head order's compartment opens, and the permissives decide between ARMED and a wait for air. -/
theorem compartmentOpens : Obligations.CompartmentOpens := by
  intro s i o rest hq
  have harmed : ((s.upd i fun _ => (s.spout i).openWith o rest).spout i).ctl.state = .armed := by simp [Spout.openWith]
  refine ⟨fun hp => ?_, fun hp => ?_⟩ <;> rw [openCompartment, openCompartment_spout hq]
  · rw [examineArmed_of_not fun h => by simp [hp] at h]
    rfl
  · rw [examineArmed_of_permitted ⟨harmed, by simpa using hp⟩, upd_upd]
    rfl

/-- Settles O19: each entry shuts the gate and gives up the spout's place before its own part. -/
theorem loadingEnds : Obligations.LoadingEnds := by
  refine ⟨fun s i reason => ?_, fun s i reason => ?_, fun s i kind => ⟨fun h => ?_, fun h => ?_, fun hp hf => ?_⟩⟩
  · rw [enterHeld_eq, giveUpAir_shutGate]
    cases reason <;> rfl
  · rw [enterTailing_eq, giveUpAir_shutGate]
    rfl
  · exact enterFault_of_exempt h
  · exact recordResult_of_none ((Control.shut_openComp _).trans h)
  · rw [enterFault_eq hp hf, giveUpAir_shutGate]
    cases kind <;> rfl

end Sys2Proof.Settled
end

section
/-! PROOFS. A grant decision, one grant at a time (R138, R139), the entry to COARSE or FINE (R103, R140), and the settled statement
about them. -/

set_option Elab.async false

namespace Sys2Proof.Machine

variable {s : State} {i : SpoutId} {p : Spout}

/-! ### The recursion of a grant decision -/

theorem decideGrants_of_filled (n : Nat) (h : s.grantCount ≤ s.holders) : decideGrants n s = s := by
  cases n with
  | zero => rfl
  | succ n => rw [decideGrants, if_neg (Nat.not_lt.mpr h)]

theorem decideGrants_of_none (n : Nat) (h : s.firstWaiter = none) : decideGrants n s = s := by
  cases n with
  | zero => rfl
  | succ n => rw [decideGrants, h, ite_self]

theorem decideGrants_of_some (n : Nat) (h : s.holders < s.grantCount) (hi : s.firstWaiter = some i) :
    decideGrants (n + 1) s = decideGrants n (grantTo i s) := by rw [decideGrants, if_pos h, hi]

theorem firstWaiter_of_no_waiter (h : ∀ i, (s.spout i).place ≠ .waiter) : s.firstWaiter = none :=
  List.find?_eq_none.mpr fun i _ => by simpa using h i

theorem firstWaiter_of_split {before after : List SpoutId} (hc : s.chain = before ++ i :: after)
    (hb : ∀ j ∈ before, (s.spout j).place ≠ .waiter) (hi : (s.spout i).place = .waiter) : s.firstWaiter = some i := by
  have hnone : before.find? (fun i => (s.spout i).place == .waiter) = none :=
    List.find?_eq_none.mpr fun j hj => by simpa using hb j hj
  rw [State.firstWaiter, hc, List.find?_append, hnone, Option.none_or, List.find?_cons_of_pos (by simpa using hi)]

/-- R138: with as many grants as there are places left to take, one more changes nothing. -/
theorem decideGrants_succ (n : Nat) (hn : 4 ≤ s.holders + n) : decideGrants (n + 1) s = decideGrants n s := by
  induction n generalizing s with
  | zero => exact decideGrants_of_none 1 (firstWaiter_of_no_waiter fun i => by simp [place_holder_of_four hn i])
  | succ n ih =>
    by_cases hfree : s.holders < s.grantCount
    · cases hw : s.firstWaiter with
      | none => rw [decideGrants_of_none _ hw, decideGrants_of_none _ hw]
      | some i =>
        rw [decideGrants_of_some _ hfree hw, decideGrants_of_some _ hfree hw]
        exact ih (by rw [holders_grantTo (firstWaiter_waits hw)]; omega)
    · rw [decideGrants_of_filled _ (not_lt.mp hfree), decideGrants_of_filled _ (not_lt.mp hfree)]

/-- R138: a decision gives the first waiter its grant, and decides on. -/
theorem grantDecision_of_first (hfree : s.holders < s.grantCount) (hi : s.firstWaiter = some i) :
    grantDecision s = grantDecision (grantTo i s) := by
  have hlen : 4 ≤ (grantTo i s).holders + 3 := by rw [holders_grantTo (firstWaiter_waits hi)]; omega
  rw [grantDecision, decideGrants_of_some 3 hfree hi, grantDecision, decideGrants_succ 3 hlen]

/-! ### The entry to COARSE or FINE -/

theorem examinePressure_of_not (h : ¬ ((s.spout i).ctl.state = .awaitAir ∧ (s.spout i).place = .holder ∧ s.airReached i = true)) :
    examinePressure i s = s := by
  rw [examinePressure, if_neg h]

theorem examinePressure_of_reached (hst : (s.spout i).ctl.state = .awaitAir) (hp : (s.spout i).place = .holder)
    (hr : s.airReached i = true) : examinePressure i s = s.upd i Spout.openGate := by
  rw [examinePressure, if_pos ⟨hst, hp, hr⟩]

theorem airReached_takeGrant : (s.upd i Spout.takeGrant).airReached i = s.airReached i := by
  simp only [State.airReached, upd_roleLane, spout_upd_same]
  rfl

theorem grantTo_of_not_reached (h : (s.spout i).ctl.state ≠ .awaitAir ∨ s.airReached i = false) :
    grantTo i s = s.upd i Spout.takeGrant := by
  refine examinePressure_of_not fun hr => ?_
  obtain ⟨hst, -, hair⟩ := hr
  rw [airReached_takeGrant] at hair
  rcases h with h | h
  · exact h (by simpa using hst)
  · rw [h] at hair; cases hair

theorem grantTo_of_reached (hst : (s.spout i).ctl.state = .awaitAir) (h : s.airReached i = true) :
    grantTo i s = s.upd i fun p => p.takeGrant.openGate := by
  rw [grantTo, examinePressure_of_reached (by simpa using hst) (by simp) (airReached_takeGrant.trans h), upd_upd]

theorem airReached_of_roleLane {e : Lane} (he : s.roleLane i .air = some e) :
    s.airReached i = true ↔ (s.spout i).par.airThreshold ≤ e.latest ∧ e.stale = false := by
  simp [State.airReached, he]

/-- R103: the record of a spout that has entered a phase whose demand aims at `aim`. -/
def Spout.opened (p : Spout) (st : SpoutState) (aim : Nat) : Spout :=
  { p with
    gatePending := true
    reportDue := true
    ctl := { p.ctl with
      state := st, stuckRun := 0, floodRun := 0, airLostRun := 0, pressureWait := none
      gateDemand := aim
      sentDemand := max (rampToward p.par.rampStep aim p.ctl.sentDemand) p.par.minOpening } }

theorem openGate_coarse {o : Order} {rest : List Order} (h : p.ctl.resumePhase = some .coarse) (hq : p.queue = o :: rest) :
    p.openGate = p.opened .coarse (o.cap * p.ctl.ratio / 1000) := by
  simp [Spout.openGate, Spout.opened, Spout.demandUpdate, Spout.orderGate, Spout.aim, Spout.enter, h, hq, Phase.state,
    SpoutState.stuckExempt]

theorem openGate_fine (h : p.ctl.resumePhase = some .fine) : p.openGate = p.opened .fine p.par.fineOpening := by
  simp [Spout.openGate, Spout.opened, Spout.demandUpdate, Spout.orderGate, Spout.aim, Spout.enter, h, Phase.state,
    SpoutState.stuckExempt]

end Sys2Proof.Machine

namespace Sys2Proof.Settled

open Sys2Proof.Machine

/-- Settles O17: a decision is its first grant followed by the decision on what that leaves, because four grants take every
place; a grant and an AIR value open the gate alike. -/
theorem grantDecision : Obligations.GrantDecision := by
  refine ⟨⟨fun s h => decideGrants_of_filled 4 h, fun s h => decideGrants_of_none 4 (firstWaiter_of_no_waiter h),
    fun s before after i _ hfree hchain hb hi => ?_, fun s hc i hi => ?_⟩, fun s i e he => ?_⟩
  · have hstep := grantDecision_of_first hfree (firstWaiter_of_split hchain hb hi)
    refine ⟨fun h => ?_, fun hst hr hphase o rest hq => ?_, fun hst hr hphase => ?_⟩
    · rw [hstep, grantTo_of_not_reached h]
      rfl
    · rw [hstep, grantTo_of_reached hst hr]
      refine congrArg _ (upd_congr s i ?_)
      exact openGate_coarse (p := (s.spout i).takeGrant) hphase hq
    · rw [hstep, grantTo_of_reached hst hr]
      refine congrArg _ (upd_congr s i ?_)
      exact openGate_fine (p := (s.spout i).takeGrant) hphase
  · have hcount := grantCount_of_device (grantDecision_device s)
    exact hcount ▸ grantDecision_filled hc ⟨i, hi⟩
  · have hr := airReached_of_roleLane he
    refine ⟨fun h => examinePressure_of_not fun hx => h ⟨⟨hx.1, hx.2.1⟩, hr.mp hx.2.2⟩, fun o rest hw hreach hphase hq => ?_,
      fun hw hreach hphase => ?_⟩
    · rw [examinePressure_of_reached hw.1 hw.2 (hr.mpr hreach)]
      exact upd_congr s i (openGate_coarse hphase hq)
    · rw [examinePressure_of_reached hw.1 hw.2 (hr.mpr hreach)]
      exact upd_congr s i (openGate_fine hphase)

end Sys2Proof.Settled
end

section
/-! PROOFS. The conditions of the sample count: when each stands and what its command then does, or does not (R38 to R46, R87,
R88, R99, R108 to R113, R141, R154, R169; notes/assumptions/3.md); and the settled statements about them. -/

set_option Elab.async false

namespace Sys2Proof.Machine

variable {s u : State} {i : SpoutId} {p : Spout}

/-! ### When each condition stands -/

theorem finish_of_pos {c : Prop} [Decidable c] (h : c) : finish (if c then u else s) = .next (serveLines u) := by
  rw [if_pos h]
  rfl

theorem finish_of_neg {c : Prop} [Decidable c] (h : ¬ c) : finish (if c then u else s) = .next (serveLines s) := by
  rw [if_neg h]
  rfl

theorem dueReached_iff : p.dueReached = true ↔ p.ctl.state ≠ .parked ∧ p.duePeriod ≤ p.zero.dueCount + 1 := by
  simp [Spout.dueReached]

theorem retryEnds_iff : p.retryEnds = true ↔ ∃ n, p.zero.retryWait = some n ∧ n ≤ 1 := by
  unfold Spout.retryEnds
  split
  · next n h => simp [h]
  · next h => simp [h]

theorem pacingReached_iff : p.pacingReached = true ↔ 7 ≤ p.ctl.pacing := by
  simp [Spout.pacingReached]

theorem reportReached_iff : p.reportReached = true ↔ p.par.reportInterval ≤ p.reportCount + 1 := by
  simp [Spout.reportReached]

theorem flooding_iff : p.flooding = true ↔ p.par.floodLimit ≠ 0 ∧ p.par.floodLimit < p.chan.filtered := by
  simp [Spout.flooding]

theorem floodDropReached_iff :
    p.floodDropReached = true ↔ p.ctl.state = .coarse ∧ p.flooding = true ∧ 7 ≤ p.ctl.floodRun := by
  simp [Spout.floodDropReached, and_assoc]

theorem floodClosureReached_iff :
    p.floodClosureReached = true ↔ p.ctl.state = .fine ∧ p.flooding = true ∧ 399 ≤ p.ctl.floodRun := by
  simp [Spout.floodClosureReached, and_assoc]

theorem gateStandsOpen_iff : s.gateStandsOpen i = true ↔ (s.spout i).ctl.state.stuckExempt = false ∧ 50 < (s.gate i).1 := by
  simp [State.gateStandsOpen]

theorem stuckReached_iff : s.stuckReached i = true ↔
    (s.spout i).ctl.state.stuckExempt = false ∧ 50 < (s.gate i).1 ∧ 1199 ≤ (s.spout i).ctl.stuckRun := by
  simp [State.stuckReached, gateStandsOpen_iff, and_assoc]

theorem airFailReached_iff :
    p.airFailReached = true ↔ p.ctl.state = .awaitAir ∧ ∃ n, p.ctl.pressureWait = some n ∧ 799 ≤ n := by
  cases h : p.ctl.pressureWait <;> simp [Spout.airFailReached, h]

theorem airLostReached_iff : s.airLostReached i = true ↔
    (s.spout i).ctl.state.gateOpen = true ∧ s.airReached i = false ∧ 199 ≤ (s.spout i).ctl.airLostRun := by
  simp [State.airLostReached, and_assoc]

/-- R87: the sample settles a tail. -/
def Spout.settles (p : Spout) : Prop := p.chan.filtered < p.par.lowCut ∧ p.par.settleCount ≤ p.ctl.settleRun + 1

theorem settleReached_iff : p.settleReached = true ↔ p.ctl.state = .tailing ∧ p.settles := by
  simp [Spout.settleReached, Spout.quiet, Spout.settles, and_assoc]

theorem timeoutReached_iff : p.timeoutReached = true ↔ p.ctl.state = .tailing ∧ ¬ p.settles ∧ 3999 ≤ p.ctl.tailAge := by
  have hs := settleReached_iff (p := p)
  cases hr : p.settleReached <;> simp_all [Spout.timeoutReached, and_assoc]

theorem gateOpen_iff {st : SpoutState} : st.gateOpen = true ↔ st = .coarse ∨ st = .fine := by cases st <;> simp [SpoutState.gateOpen]

theorem stuckExempt_iff {st : SpoutState} :
    st.stuckExempt = true ↔ st = .parked ∨ st = .coarse ∨ st = .fine ∨ st = .faulted := by
  cases st <;> simp [SpoutState.stuckExempt]

theorem distance_le_iff {a b n : Nat} : distance a b ≤ n ↔ a ≤ b + n ∧ b ≤ a + n := by
  unfold distance
  omega

/-- R41: a good sample passes the step's test. -/
theorem stepPasses_ok_iff {st : ZeroStep} {raw : Nat} : s.stepPasses i st raw .ok = true ↔
    (s.gate i).1 ≤ 20 ∧ (s.gate i).2 = false ∧ (st.kind = .normal →
      raw ≤ (s.spout i).zero.zero + st.band ∧ (s.spout i).zero.zero ≤ raw + st.band) := by
  cases hk : st.kind <;> simp [State.stepPasses, hk, distance_le_iff, and_assoc]

theorem completesStep_of_none {raw : Nat} {hs : HeadStatus} (h : (s.spout i).zero.step = none) :
    ¬ s.completesStep i raw hs = true := by simp [State.completesStep, h]

theorem completesStep_iff {st : ZeroStep} {raw : Nat} {hs : HeadStatus} (h : (s.spout i).zero.step = some st) :
    s.completesStep i raw hs = true ↔ s.stepPasses i st raw hs = true ∧ st.length ≤ st.taken + 1 := by
  simp [State.completesStep, h]

/-! ### What each does -/

theorem sampleLoss_of_none (h : s.laneOf i .force = none) : exec (.sampleLoss i) s = .next (serveLines s) := by
  show execSampleLoss i s = _
  rw [execSampleLoss, h]
  rfl

theorem sampleLoss_of_some {l : LaneId} (h : s.laneOf i .force = some l) :
    exec (.sampleLoss i) s = finish (if 4 ≤ (s.spout i).chan.missingRun then missingSample l i s else s) := by
  show execSampleLoss i s = _
  rw [execSampleLoss, h]

theorem sampleLoss_of_short (h : (s.spout i).chan.missingRun < 4) : exec (.sampleLoss i) s = .next (serveLines s) := by
  cases hl : s.laneOf i .force with
  | none => exact sampleLoss_of_none hl
  | some l => exact (sampleLoss_of_some hl).trans (finish_of_neg (Nat.not_le.mpr h))

theorem duePoint_of_ne_seven (h : (s.spout i).zero.owed ≠ 7) :
    duePoint i s = s.upd i fun p => p.oweStep.examineZeroing := by
  rw [duePoint, if_neg h, examineZeroing, upd_upd]

theorem duePoint_of_seven (h : (s.spout i).zero.owed = 7) : duePoint i s =
    s.upd i fun _ => ((s.spout i).oweStep.raise .zeroOverdue (s.spout i).overdueDetail).examineZeroing := by
  rw [duePoint, if_pos h, examineZeroing, raise, upd_upd, upd_upd]
  exact upd_congr s i rfl

theorem endRetryWait_eq : endRetryWait i s = s.upd i fun p => p.endRetry.examineZeroing := by
  rw [endRetryWait, examineZeroing, upd_upd]

/-- R99 to R102: a pacing point of a spout whose gate is open. -/
theorem pace_of_open (h : p.ctl.state.gateOpen = true) :
    p.pace = ({ p with ctl := { p.ctl with pacing := 0 } } : Spout).regulate.demandUpdate.orderGate := by
  simp [Spout.pace, h]

theorem pace_of_shut (h : p.ctl.state.gateOpen = false) :
    p.pace = { p with gatePending := true, ctl := { p.ctl with pacing := 0 } } := by
  simp [Spout.pace, h, Spout.orderGate]

/-- R100: the ratio after the regulator's step toward the order's flow limit. -/
def Spout.regulated (p : Spout) : Option Nat → Nat
  | none => p.ctl.ratio
  | some f =>
    if f + p.par.deadband < p.chan.filtered then p.ctl.ratio - p.par.regStep
    else if p.chan.filtered + p.par.deadband < f then min 1000 (p.ctl.ratio + p.par.regStep)
    else p.ctl.ratio

theorem regulate_coarse {o : Order} {rest : List Order} (hst : p.ctl.state = .coarse) (hq : p.queue = o :: rest) :
    p.regulate = { p with ctl := { p.ctl with ratio := p.regulated o.flowLimit } } := by
  obtain ⟨tag, targets, cap, limit, next, aborted⟩ := o
  cases limit with
  | none =>
    simp only [Spout.regulate, hq, Spout.regulated]
    rw [← hq]
  | some f => simp only [Spout.regulate, hq, hst, if_true, Spout.regulated]

theorem regulate_of_not_coarse (hst : p.ctl.state ≠ .coarse) : p.regulate = p := by
  unfold Spout.regulate
  split
  · rw [if_neg hst]
  · rfl

/-- R99 to R102: the record of a spout in COARSE or FINE after a pacing point at which it aims at `aim`. -/
def Spout.paced (p : Spout) (ratio aim : Nat) : Spout :=
  { p with
    gatePending := true
    ctl := { p.ctl with
      pacing := 0, ratio := ratio, gateDemand := aim
      sentDemand := max (rampToward p.par.rampStep aim p.ctl.sentDemand) p.par.minOpening } }

theorem demandUpdate_of_aim {aim : Nat} (h : p.aim = aim) : p.demandUpdate = { p with ctl := { p.ctl with
    gateDemand := aim, sentDemand := max (rampToward p.par.rampStep aim p.ctl.sentDemand) p.par.minOpening } } := by
  subst h
  rfl

theorem pace_coarse {o : Order} {rest : List Order} (hst : p.ctl.state = .coarse) (hq : p.queue = o :: rest) :
    p.pace = p.paced (p.regulated o.flowLimit) (o.cap * p.regulated o.flowLimit / 1000) := by
  have hreg := regulate_coarse (p := { p with ctl := { p.ctl with pacing := 0 } }) hst hq
  have hratio : ({ p with ctl := { p.ctl with pacing := 0 } } : Spout).regulated o.flowLimit = p.regulated o.flowLimit := by
    cases o.flowLimit <;> rfl
  rw [pace_of_open (gateOpen_iff.mpr (.inl hst)), hreg, hratio,
    demandUpdate_of_aim (aim := o.cap * p.regulated o.flowLimit / 1000) (by simp [Spout.aim, hst, hq])]
  rfl

theorem pace_fine (hst : p.ctl.state = .fine) : p.pace = p.paced p.ctl.ratio p.par.fineOpening := by
  rw [pace_of_open (gateOpen_iff.mpr (.inr hst)), regulate_of_not_coarse (by simp [hst]),
    demandUpdate_of_aim (aim := p.par.fineOpening) (by simp [Spout.aim, hst])]
  rfl

/-! ### Missing samples and starvation -/

theorem abandonStep_chan (p : Spout) : p.abandonStep.chan = p.chan := by
  unfold Spout.abandonStep Spout.endStep
  split
  · split <;> rfl
  · rfl

/-- R43: the origin of a step has no compartment open. -/
theorem abandonStep_shut (h : p.ctl.state.compartmentOpen = false) : p.abandonStep.ctl.state.compartmentOpen = false := by
  unfold Spout.abandonStep Spout.endStep
  split
  · split
    · next st _ => cases ho : st.origin <;> simp [ho, Origin.state, SpoutState.compartmentOpen]
    · exact h
  · exact h

/-- R5, R7: a missing sample that takes the run above 4. -/
theorem missingSample_of_long {l : LaneId} (h : 4 ≤ (s.spout i).chan.missingRun) :
    missingSample l i s = loseSample i (countMissing l i s) := by
  have hrun : ¬ ((countMissing l i s).spout i).chan.missingRun ≤ 4 := by
    simp only [countMissing, abandonStep, spout_upd_same, abandonStep_chan, updLane_spout, Spout.countMissed]
    omega
  rw [missingSample, if_neg hrun]

theorem loseSample_of_open (h : (s.spout i).ctl.state.compartmentOpen = true) :
    loseSample i s = enterFault .sampleLoss i s := by rw [loseSample, if_pos h]

theorem loseSample_of_shut (h : (s.spout i).ctl.state.compartmentOpen = false) : loseSample i s = s := by
  simp [loseSample, h]

theorem exec_starvation (i : SpoutId) (s : State) : exec (.starvation i) s = .next (serveLines (starve i s)) := rfl

theorem starve_of_none (h : s.laneOf i .force = none) : starve i s = s := by rw [starve, h]

theorem starve_of_stale {l : LaneId} {e : Lane} (h : s.laneOf i .force = some l) (he : s.lane l = some e)
    (hs : e.stale = true) : starve i s = s := by
  simp [starve, h, he, hs]

/-- R9: what a starvation that acts does before the spout's state decides. -/
theorem starve_of_fresh {l : LaneId} {e : Lane} (h : s.laneOf i .force = some l) (he : s.lane l = some e)
    (hs : e.stale = false) :
    let t := (s.setLane l (some { e with age := 50, stale := true })).upd i Spout.starveChannel
    starve i s = if (s.spout i).ctl.state.compartmentOpen then enterFault .sampleLoss i t else abandonStep i t := by
  simp [starve, h, he, hs, State.updLane, Spout.starveChannel]

end Sys2Proof.Machine

namespace Sys2Proof.Settled

open Sys2Proof.Machine

/-- Settles O28: a condition that does not stand leaves the arbiters' choices alone. -/
theorem conditionsNotReached : Obligations.ConditionsNotReached := by
  intro s i raw
  refine ⟨fun h => ?_, fun h => ?_, fun h => ?_, fun st hst h => ?_, fun h => ?_, fun h => ?_, fun h => ?_, fun h => ?_, fun h => ?_,
    fun h => ?_, fun h => ?_, fun h => ?_, fun h => ?_, fun h => ?_, fun h => ?_⟩
  · exact sampleLoss_of_short h
  · refine finish_of_neg fun hr => ?_
    rw [dueReached_iff] at hr
    rcases h with h | h
    · exact hr.1 h
    · exact absurd hr.2 (Nat.not_le.mpr h)
  · exact finish_of_neg (completesStep_of_none h)
  · refine finish_of_neg fun hr => ?_
    rw [completesStep_iff hst, stepPasses_ok_iff] at hr
    obtain ⟨⟨hgate, hstale, hband⟩, hlen⟩ := hr
    rcases h with h | h | h | ⟨hk, h⟩
    · omega
    · omega
    · rw [hstale] at h; cases h
    · have := hband hk; omega
  · refine finish_of_neg fun hr => ?_
    obtain ⟨n, hn, hle⟩ := retryEnds_iff.mp hr
    exact absurd (h n hn) (Nat.not_lt.mpr hle)
  · refine finish_of_neg fun hr => ?_
    rw [pacingReached_iff] at hr
    rcases h with h | h
    · simp [State.hasSamples, h] at hr
    · omega
  · refine finish_of_neg fun hr => ?_
    rw [reportReached_iff] at hr
    rcases h with h | h
    · simp [State.hasSamples, h] at hr
    · omega
  · refine finish_of_neg fun hr => ?_
    rw [floodDropReached_iff, flooding_iff] at hr
    obtain ⟨hst, ⟨hoff, hlt⟩, hrun⟩ := hr
    rcases h with h | h | h | h
    · exact h hst
    · exact hoff h
    · omega
    · omega
  · refine finish_of_neg fun hr => ?_
    rw [floodClosureReached_iff, flooding_iff] at hr
    obtain ⟨hst, ⟨hoff, hlt⟩, hrun⟩ := hr
    rcases h with h | h | h | h
    · exact h hst
    · exact hoff h
    · omega
    · omega
  · refine finish_of_neg fun hr => ?_
    obtain ⟨hexempt, hopen, hrun⟩ := stuckReached_iff.mp hr
    rcases h with h | h | h
    · have hst : (s.spout i).ctl.state.stuckExempt = true := stuckExempt_iff.mpr (by simpa using h)
      rw [hexempt] at hst
      cases hst
    · omega
    · omega
  · refine finish_of_neg fun hr => ?_
    obtain ⟨hst, n, hn, hle⟩ := airFailReached_iff.mp hr
    rcases h with h | h
    · exact h hst
    · exact absurd (h n hn) (Nat.not_lt.mpr hle)
  · refine finish_of_neg fun hr => ?_
    rw [airLostReached_iff, gateOpen_iff] at hr
    obtain ⟨hst, hair, hrun⟩ := hr
    rcases h with h | h | h
    · exact h (by simpa using hst)
    · rw [hair] at h; cases h
    · omega
  · refine finish_of_neg fun hr => ?_
    obtain ⟨hst, hsettles⟩ := settleReached_iff.mp hr
    exact h.elim (fun h => h hst) fun h => h hsettles
  · refine finish_of_neg fun hr => ?_
    obtain ⟨hst, hsettles, hage⟩ := timeoutReached_iff.mp hr
    rcases h with h | h | h
    · exact h hst
    · exact hsettles h
    · omega
  · exact finish_of_neg (by simp [h])

/-- Settles O24: the due point, the retry wait's end and the report interval's expiry, each at its count. -/
theorem duePointsAndWaits : Obligations.DuePointsAndWaits := by
  refine ⟨fun s i hp hcount => ⟨fun h => ?_, fun h => ?_⟩, fun s i => ⟨fun h => ?_, fun hl h => ?_⟩⟩
  · refine (finish_of_pos (dueReached_iff.mpr ⟨hp, hcount.ge⟩)).trans ?_
    rw [duePoint_of_ne_seven h]
    exact congrArg _ (congrArg _ (upd_congr s i rfl))
  · refine (finish_of_pos (dueReached_iff.mpr ⟨hp, hcount.ge⟩)).trans ?_
    rw [duePoint_of_seven h]
    rfl
  · refine (finish_of_pos (retryEnds_iff.mpr ⟨1, h, le_rfl⟩)).trans ?_
    rw [endRetryWait_eq]
    exact congrArg _ (congrArg _ (upd_congr s i rfl))
  · refine (finish_of_pos ⟨hl, reportReached_iff.mpr h.ge⟩).trans ?_
    exact congrArg _ (congrArg _ (upd_congr s i rfl))

/-- Settles O26: at a pacing point only a spout in COARSE or FINE updates its demand, and only one in COARSE steps its ratio. -/
theorem pacingPoint : Obligations.PacingPoint := by
  intro s i p paced hl hcount
  have hexec : exec (.pacingPoint i) s = .next (serveLines (s.upd i Spout.pace)) :=
    finish_of_pos ⟨hl, pacingReached_iff.mpr hcount.ge⟩
  refine ⟨fun h => ?_, fun o rest hq hst => ?_, fun hst => ?_⟩ <;> rw [hexec] <;>
    refine congrArg _ (congrArg _ (upd_congr s i ?_))
  · exact pace_of_shut h
  · exact pace_coarse hst hq
  · exact pace_fine hst

/-- Settles O27: seven conditions at the counts that their rules name. -/
theorem floodGateAirAndTail : Obligations.FloodGateAirAndTail := by
  refine ⟨fun s i hoff hlt => ⟨fun hst hrun => ?_, fun hst hrun => ?_⟩,
    fun s i => ⟨fun e he hopen hrun hp hc hf hx => ?_, fun hst hw => ?_, fun e he hlow hst hrun => ?_⟩,
    fun s i hst => ⟨fun hquiet hrun => ?_, fun hage hno => ?_⟩⟩
  · refine (finish_of_pos (floodDropReached_iff.mpr ⟨hst, flooding_iff.mpr ⟨hoff, hlt⟩, hrun.ge⟩)).trans ?_
    exact congrArg _ (congrArg _ (upd_congr s i rfl))
  · exact finish_of_pos (floodClosureReached_iff.mpr ⟨hst, flooding_iff.mpr ⟨hoff, hlt⟩, hrun.ge⟩)
  · refine finish_of_pos (stuckReached_iff.mpr ⟨?_, ?_, hrun.ge⟩)
    · exact Bool.eq_false_iff.mpr fun h => by
        rcases stuckExempt_iff.mp h with h | h | h | h
        · exact hp h
        · exact hc h
        · exact hf h
        · exact hx h
    · simpa [State.gate, he] using hopen
  · exact finish_of_pos (airFailReached_iff.mpr ⟨hst, 799, hw, le_rfl⟩)
  · refine finish_of_pos (airLostReached_iff.mpr ⟨gateOpen_iff.mpr hst, ?_, hrun.ge⟩)
    refine Bool.eq_false_iff.mpr fun h => ?_
    obtain ⟨hreach, hfresh⟩ := (airReached_of_roleLane he).mp h
    rcases hlow with hl | hl
    · exact absurd hreach (Nat.not_le.mpr hl)
    · rw [hfresh] at hl; cases hl
  · exact finish_of_pos (settleReached_iff.mpr ⟨hst, hquiet, hrun⟩)
  · refine finish_of_pos (timeoutReached_iff.mpr ⟨hst, fun hs => ?_, hage.ge⟩)
    obtain ⟨hquiet, hrun⟩ := hs
    rcases hno with h | h <;> omega

/-- Settles O23: SAMPLE_LOSS is one count of the missing run above 4, and STARVATION acts once for each silence. -/
theorem sampleLossAndStarvation : Obligations.SampleLossAndStarvation := by
  refine ⟨⟨fun s i hl => ⟨sampleLoss_of_none hl, by rw [exec_starvation, starve_of_none hl]⟩,
    fun s i l hl hrun => ?_⟩, fun s i l e hl he => ⟨fun hs => ?_, fun hs hopen => ?_, fun hs hshut => ?_⟩⟩
  · have hexec : exec (.sampleLoss i) s = .next (serveLines (loseSample i (countMissing l i s))) := by
      rw [sampleLoss_of_some hl, missingSample_of_long hrun]
      exact finish_of_pos hrun
    refine ⟨fun hopen hstep => ?_, fun hshut => ?_⟩ <;> rw [hexec]
    · rw [countMissing, abandonStep_of_none (by simpa [Spout.countMissed] using hstep)]
      rw [loseSample_of_open (by simpa [Spout.countMissed] using hopen)]
      rfl
    · rw [countMissing, loseSample_of_shut (by
        simpa only [abandonStep, spout_upd_same] using abandonStep_shut (by simpa [Spout.countMissed] using hshut))]
      rfl
  · rw [exec_starvation, starve_of_stale hl he hs]
  · rw [exec_starvation, starve_of_fresh hl he hs, if_pos hopen]
    rfl
  · rw [exec_starvation, starve_of_fresh hl he hs, if_neg (by simp [hshut])]
    rfl

end Sys2Proof.Settled
end

section
/-! PROOFS. The completion of a zero step (R41, R42, R48, R50), and the settled statement about it. -/

set_option Elab.async false

namespace Sys2Proof.Machine

variable {s : State} {i : SpoutId} {p : Spout} {st : ZeroStep} {raw : Nat}

/-! ### The end of a step -/

/-- R41, step 4: the record of a spout that has returned to its step's origin. -/
def Spout.returned (p : Spout) (o : Origin) : Spout :=
  { p with reportDue := true, ctl := { p.ctl with state := o.state }, zero := { p.zero with step := none } }

theorem endStep_of_some (h : p.zero.step = some st) : p.endStep = p.returned st.origin := by
  simp only [Spout.endStep, h]
  cases ho : st.origin <;> simp [Spout.returned, Spout.enter, Origin.state, SpoutState.stuckExempt]

theorem takeSample_step (h : p.zero.step = some st) : (p.takeSample raw).zero.step = some (st.take raw) := by
  simp [Spout.takeSample, h]

/-! ### The judgement of a set -/

/-- R42, R52: a candidate within the drift limit becomes the zero. -/
theorem judge_of_near {now : Bool} {sum : Nat} (h : distance (candidateZero sum) p.zero.zero ≤ p.par.driftLimit) :
    p.judge now sum = { p with zero := { p.zero with zero := candidateZero sum, owed := 0 } } := by
  rw [Spout.judge, if_pos h]

theorem judge_of_far {now : Bool} {sum : Nat} (h : ¬ distance (candidateZero sum) p.zero.zero ≤ p.par.driftLimit) :
    p.judge now sum = p.raise .zeroRejected (rejectedDetail now (candidateZero sum) p.zero.zero) := by
  rw [Spout.judge, if_neg h]

theorem rejectedDetail_normal (c z : Nat) : rejectedDetail false c z = if c < z then 1 else 0 := Nat.zero_add _

theorem rejectedDetail_zeroNow (c z : Nat) : rejectedDetail true c z = if c < z then 3 else 2 := by
  by_cases h : c < z <;> simp [rejectedDetail, h]

/-- R41, steps 1 and 2: one step less owed, one done, its sum added to the set. -/
def Spout.stepped (p : Spout) (st : ZeroStep) : Spout :=
  { p with zero := { p.zero with
    owed := p.zero.owed - 1, partialSum := p.zero.partialSum + st.sum, stepsDone := p.zero.stepsDone + 1 } }

/-- R41: the set begins anew. -/
def Spout.newSet (p : Spout) : Spout := { p with zero := { p.zero with stepsDone := 0, partialSum := 0 } }

theorem completeNormal_of_partial (h : p.zero.stepsDone + 1 < p.zero.cadence.stepsPerSet) :
    p.completeNormal st = (p.stepped st).endStep := by
  have hno : ¬ (p.stepped st).zero.cadence.stepsPerSet ≤ (p.stepped st).zero.stepsDone := Nat.not_le.mpr h
  exact congrArg Spout.endStep (if_neg hno)

theorem completeNormal_of_whole (h : p.zero.cadence.stepsPerSet ≤ p.zero.stepsDone + 1) :
    p.completeNormal st = ((p.stepped st).judge false (p.zero.partialSum + st.sum)).newSet.endStep := by
  have hyes : (p.stepped st).zero.cadence.stepsPerSet ≤ (p.stepped st).zero.stepsDone := h
  exact congrArg Spout.endStep (if_pos hyes)

/-! ### The command -/

/-- R41: a last passing sample completes the step that it joins. -/
theorem stepComplete_of_last {r : BitVec 20} (hs : (s.spout i).zero.step = some st) (hlen : st.taken + 1 = st.length)
    (hgate : (s.gate i).1 ≤ 20) (hfresh : (s.gate i).2 = false)
    (hband : st.kind = .normal →
      r.toNat ≤ (s.spout i).zero.zero + st.band ∧ (s.spout i).zero.zero ≤ r.toNat + st.band) :
    exec (.stepComplete i r) s = .next (serveLines (completeStep i (s.upd i (Spout.takeSample r.toNat)))) :=
  finish_of_pos ((completesStep_iff hs).mpr ⟨stepPasses_ok_iff.mpr ⟨hgate, hfresh, hband⟩, hlen.ge⟩)

theorem completeStep_normal (hs : (s.spout i).zero.step = some st) (hk : st.kind = .normal) :
    completeStep i (s.upd i (Spout.takeSample raw)) =
      s.upd i fun _ => (((s.spout i).takeSample raw).completeNormal (st.take raw)).examineZeroing := by
  have hkind : (st.take raw).kind = .normal := hk
  simp only [completeStep, spout_upd_same, takeSample_step hs, hkind, upd_upd]
  exact upd_congr s i rfl

theorem completeStep_zeroNow (hs : (s.spout i).zero.step = some st) (hk : st.kind = .zeroNow) :
    completeStep i (s.upd i (Spout.takeSample raw)) =
      s.upd i fun _ => (((s.spout i).takeSample raw).judge true (st.take raw).sum).endStep.examineZeroing := by
  have hkind : (st.take raw).kind = .zeroNow := hk
  simp only [completeStep, spout_upd_same, takeSample_step hs, hkind, upd_upd]
  exact upd_congr s i rfl

theorem completeStep_makeup (hs : (s.spout i).zero.step = some st) (hk : st.kind = .makeup) :
    completeStep i (s.upd i (Spout.takeSample raw)) =
      if st.origin = .ready ∧ (s.spout i).zero.pendingProceed = true then
        openCompartment i (s.upd i fun _ => ((s.spout i).takeSample raw).completeMakeup (st.take raw))
      else s.upd i fun _ => (((s.spout i).takeSample raw).completeMakeup (st.take raw)).examineZeroing := by
  have hkind : (st.take raw).kind = .makeup := hk
  have hproceeds : ((s.spout i).takeSample raw).proceedsAfter (st.take raw) = true ↔
      st.origin = .ready ∧ (s.spout i).zero.pendingProceed = true := by
    simp [Spout.proceedsAfter, Spout.takeSample, ZeroStep.take]
  simp only [completeStep, spout_upd_same, takeSample_step hs, hkind, upd_upd, hproceeds]
  split
  · exact congrArg _ (upd_congr s i rfl)
  · exact upd_congr s i rfl

theorem completeMakeup_eq (hs : p.zero.step = some st) : p.completeMakeup st =
    ({ p with zero := { p.zero with
      zero := candidateZero st.sum, makeupOwed := false, owed := 0, stepsDone := 0, partialSum := 0 } } : Spout).returned
      st.origin :=
  endStep_of_some hs

end Sys2Proof.Machine

namespace Sys2Proof.Settled

open Sys2Proof.Machine

/-- Settles O25: the last sample joins its step, which then completes by its kind; a whole set, and a ZERO_NOW set, are judged
by the candidate's distance from the zero. -/
theorem stepsComplete : Obligations.StepsComplete := by
  refine ⟨fun s i raw st => ?_, fun s i raw st => ?_⟩
  · intro p sum steps candidate back hs hk hlen hgate hfresh hhi hlo
    have hexec := stepComplete_of_last hs hlen hgate hfresh fun _ => ⟨hhi, hlo⟩
    have hstep := takeSample_step (raw := raw.toNat) hs
    rw [completeStep_normal hs hk] at hexec
    have hsum : ((s.spout i).takeSample raw.toNat).zero.partialSum + (st.take raw.toNat).sum = sum := (Nat.add_assoc ..).symm
    refine ⟨fun hpart => ?_, fun hwhole hnear hnear' => ?_, fun hwhole hfar => ?_⟩ <;> rw [hexec]
    · have hdone := completeNormal_of_partial (p := p.takeSample raw.toNat) (st := st.take raw.toNat) hpart
      rw [hdone, endStep_of_some (p := (p.takeSample raw.toNat).stepped _) hstep, Spout.stepped, hsum]
      rfl
    · have hd : distance candidate p.zero.zero ≤ p.par.driftLimit := distance_le_iff.mpr ⟨hnear, hnear'⟩
      have hdone := completeNormal_of_whole (p := p.takeSample raw.toNat) (st := st.take raw.toNat) hwhole
      rw [hdone, hsum, judge_of_near (by exact hd), endStep_of_some (by exact hstep)]
      rfl
    · have hd : ¬ distance candidate p.zero.zero ≤ p.par.driftLimit := fun h => by
        have := distance_le_iff.mp h
        omega
      have hdone := completeNormal_of_whole (p := p.takeSample raw.toNat) (st := st.take raw.toNat) hwhole
      rw [hdone, hsum, judge_of_far (by exact hd), endStep_of_some (by exact hstep), rejectedDetail_normal]
      rfl
  · intro p candidate back madeUp hs hlen hgate hfresh
    have hstep := takeSample_step (raw := raw.toNat) hs
    have hmade : (p.takeSample raw.toNat).completeMakeup (st.take raw.toNat) = madeUp := completeMakeup_eq hstep
    refine ⟨fun hk hstay => ?_, fun hk ho hproceed => ?_, fun hk hnear hnear' => ?_, fun hk hfar => ?_⟩ <;>
      rw [stepComplete_of_last hs hlen hgate hfresh fun h => (by rw [hk] at h; cases h)]
    · rw [completeStep_makeup hs hk, if_neg fun h => by
        rcases hstay with h' | h'
        · rw [h'] at h; cases h.1
        · exact absurd (h'.symm.trans h.2) (by simp), hmade]
    · rw [completeStep_makeup hs hk, if_pos ⟨ho, hproceed⟩, hmade]
    · have hd : distance candidate p.zero.zero ≤ p.par.driftLimit := distance_le_iff.mpr ⟨hnear, hnear'⟩
      rw [completeStep_zeroNow hs hk, judge_of_near (by exact hd), endStep_of_some (by exact hstep)]
      rfl
    · have hd : ¬ distance candidate p.zero.zero ≤ p.par.driftLimit := fun h => by
        have := distance_le_iff.mp h
        omega
      rw [completeStep_zeroNow hs hk, judge_of_far (by exact hd), endStep_of_some (by exact hstep), rejectedDetail_zeroNow]
      rfl

end Sys2Proof.Settled
end

section
/-! PROOFS. Real time and the field's silences: a millisecond that passes (R145, R170), what comes about on it one by one (R9,
R148, R171), and the interlocks (R151 to R153); and the settled statements about them. -/

set_option Elab.async false

namespace Sys2Proof.Machine

variable {s t u : State} {i j : SpoutId} {l : LaneId} {e : Lane}

/-! ### The count of free values -/

/-- The state with another count of free values read. -/
def State.freed (s : State) (n : Nat) : State := { s with freeCount := n }

theorem examinePressure_freed (i : SpoutId) (s : State) (n : Nat) :
    examinePressure i (s.freed n) = (examinePressure i s).freed n := by
  by_cases h : (s.spout i).ctl.state = .awaitAir ∧ (s.spout i).place = .holder ∧ s.airReached i = true
  · rw [examinePressure, examinePressure, if_pos h, if_pos (by exact h)]
    rfl
  · rw [examinePressure, examinePressure, if_neg h, if_neg (by exact h)]

theorem grantTo_freed (i : SpoutId) (s : State) (n : Nat) : grantTo i (s.freed n) = (grantTo i s).freed n :=
  examinePressure_freed i (s.upd i Spout.takeGrant) n

theorem decideGrants_freed (fuel : Nat) (s : State) (n : Nat) : decideGrants fuel (s.freed n) = (decideGrants fuel s).freed n := by
  induction fuel generalizing s with
  | zero => rfl
  | succ fuel ih =>
    by_cases hfree : s.holders < s.grantCount
    · cases hw : s.firstWaiter with
      | none => rw [decideGrants_of_none _ hw, decideGrants_of_none _ (by exact hw)]
      | some i =>
        rw [decideGrants_of_some fuel hfree hw, decideGrants_of_some fuel (by exact hfree) (by exact hw), grantTo_freed, ih]
    · rw [decideGrants_of_filled _ (not_lt.mp hfree), decideGrants_of_filled _ (by exact not_lt.mp hfree)]

theorem enterHeld_freed (r : HeldReason) (i : SpoutId) (s : State) (n : Nat) :
    enterHeld r i (s.freed n) = (enterHeld r i s).freed n := by
  rw [enterHeld_eq, enterHeld_eq, State.released, State.released]
  by_cases h : (s.spout i).place = .holder
  · rw [if_pos h, if_pos (by exact h)]
    exact decideGrants_freed 4 (s.upd i fun _ => (s.spout i).shutGate.giveUpAir.becomeHeld r) n
  · rw [if_neg h, if_neg (by exact h)]
    rfl

theorem foldl_freed {α : Type} {act : α → State → State} (hact : ∀ x s n, act x (s.freed n) = (act x s).freed n) (xs : List α)
    (s : State) (n : Nat) : xs.foldl (fun u x => act x u) (s.freed n) = (xs.foldl (fun u x => act x u) s).freed n := by
  induction xs generalizing s with
  | nil => rfl
  | cons x xs ih => rw [List.foldl_cons, List.foldl_cons, hact, ih]

theorem freeCount_of_freed {α : Type} {act : α → State → State} (hact : ∀ x s n, act x (s.freed n) = (act x s).freed n) (x : α)
    (s : State) : act x s = (act x s).freed s.freeCount := hact x s s.freeCount

/-- R155, R171: acts that read no free value are taken in some order, one free value for each that is not the last. -/
theorem inFreeOrder_eq_foldl {α : Type} {act : α → State → State} (hact : ∀ x s n, act x (s.freed n) = (act x s).freed n)
    (xs : List α) (s : State) : ∃ ys : List α, ys.Perm xs ∧
      inFreeOrder act xs.length xs s = (ys.foldl (fun u x => act x u) s).freed (s.freeCount + (ys.length - 1)) := by
  generalize hn : xs.length = n
  induction n generalizing xs s with
  | zero =>
    rw [List.length_eq_zero_iff.mp hn]
    exact ⟨[], List.Perm.nil, rfl⟩
  | succ n ih =>
    match xs, hn with
    | [x], _ => exact ⟨[x], List.Perm.refl _, freeCount_of_freed hact x s⟩
    | x :: y :: rest, hn =>
      have hk : Config.pick s.freeCount % (rest.length + 2) < (x :: y :: rest).length := Nat.mod_lt _ (by omega)
      simp only [inFreeOrder]
      generalize Config.pick s.freeCount % (rest.length + 2) = k at hk
      rw [List.getD_eq_getElem _ _ hk]
      have hlen : ((x :: y :: rest).eraseIdx k).length = n := by
        rw [List.length_eraseIdx_of_lt hk, hn]
        omega
      obtain ⟨ys, hperm, he⟩ := ih ((x :: y :: rest).eraseIdx k) (act (x :: y :: rest)[k] (s.freed (s.freeCount + 1))) hlen
      refine ⟨(x :: y :: rest)[k] :: ys, (hperm.cons _).trans (List.getElem_cons_eraseIdx_perm hk), ?_⟩
      have hys : ys.length = rest.length + 1 := by
        rw [hperm.length_eq, List.length_eraseIdx_of_lt hk]
        simp
      show inFreeOrder act n _ (act (x :: y :: rest)[k] (s.freed (s.freeCount + 1))) = _
      rw [he, hact, foldl_freed hact, List.foldl_cons]
      simp only [State.freed, List.length_cons, hys]
      congr 1
      omega

/-! ### The expiry of the silence timer -/

theorem silenceHolds_iff : s.silenceHolds i = true ↔
    (s.spout i).ctl.state = .awaitAir ∨ (s.spout i).ctl.state = .coarse ∨ (s.spout i).ctl.state = .fine := by
  cases h : (s.spout i).ctl.state <;> simp [State.silenceHolds, h]

/-- R138, R140: a grant moves no spout out of the three states. -/
theorem silenceHolds_enterHeld (r : HeldReason) (h : j ≠ i) (hj : s.silenceHolds j = true) :
    (enterHeld r i s).silenceHolds j = true := by
  rw [silenceHolds_iff] at hj ⊢
  rcases (enterHeld_spares s i r).2.2 j h with hq | ⟨-, hq | ⟨-, hq⟩⟩ <;> rw [hq]
  · exact hj
  · exact hj
  · right
    cases hphase : ((s.spout j).takeGrant.ctl.resumePhase).getD .coarse <;> simp [hphase, Phase.state]

/-- R171: what the expiry does to one spout when its turn comes. -/
def holdSilent (i : SpoutId) (t : State) : State := if t.silenceHolds i then enterHeld .silence i t else t

theorem holdSilent_freed (i : SpoutId) (s : State) (n : Nat) : holdSilent i (s.freed n) = (holdSilent i s).freed n := by
  by_cases h : s.silenceHolds i = true
  · rw [holdSilent, holdSilent, if_pos h, if_pos (by exact h), enterHeld_freed]
  · rw [holdSilent, holdSilent, if_neg h, if_neg (by exact h)]

theorem foldl_holdSilent (is : List SpoutId) (hn : is.Nodup) (h : ∀ i ∈ is, s.silenceHolds i = true) :
    is.foldl (fun u i => holdSilent i u) s = is.foldl (fun u i => enterHeld .silence i u) s := by
  induction is generalizing s with
  | nil => rfl
  | cons i is ih =>
    obtain ⟨hi, his⟩ := List.nodup_cons.mp hn
    rw [List.foldl_cons, List.foldl_cons, holdSilent, if_pos (h i List.mem_cons_self)]
    exact ih his fun j hj => silenceHolds_enterHeld _ (fun e => hi (e ▸ hj)) (h j (List.mem_cons_of_mem _ hj))

theorem foldl_enterHeld_device (r : HeldReason) (is : List SpoutId) (s : State) :
    (is.foldl (fun u i => enterHeld r i u) s).device = s.device := by
  induction is generalizing s with
  | nil => rfl
  | cons i is ih => rw [List.foldl_cons, ih, enterHeld_device]

theorem silenceMark_of_device (h : t.device = s.device) : t.silenceMark = s.silenceMark := by
  have h' : t.device.silenceMark = s.device.silenceMark := by rw [h]
  exact h'

/-! ### A millisecond -/

theorem expiries_of_lanes (h : ∀ l e, s.lane l = some e → e.age + 1 ≠ e.role.limit) :
    s.expiries = if s.silenceExpires then [.silence] else [] := by
  have hnone : (List.finRange 32).filter (fun l => (s.lane l).any Lane.expires) = [] :=
    List.filter_eq_nil_iff.mpr fun l _ => by
      cases he : s.lane l with
      | none => simp
      | some e => simpa [Lane.expires] using h l e he
  rw [State.expiries, hnone]
  rfl

theorem expiries_of_lane (he : s.lane l = some e) (hx : e.age + 1 = e.role.limit)
    (hone : ∀ m f, s.lane m = some f → f.age + 1 = f.role.limit → m = l) (hsilence : s.silenceExpires = false) :
    s.expiries = [.lane l] := by
  have hfilter : (List.finRange 32).filter (fun m => (s.lane m).any Lane.expires) = [l] := by
    have hp : (fun m => (s.lane m).any Lane.expires) = fun m => m == l := funext fun m => by
      rw [Bool.eq_iff_iff, beq_iff_eq]
      constructor
      · intro hm
        obtain ⟨f, hf, hf'⟩ := Option.any_eq_true .. |>.mp hm
        exact hone m f hf (by simpa [Lane.expires] using hf')
      · rintro rfl
        simp [he, Lane.expires, hx]
    rw [hp, List.filter_beq, List.count_eq_one_of_mem (List.nodup_finRange 32) (List.mem_finRange l)]
    rfl
  rw [State.expiries, hfilter, hsilence]
  rfl

theorem silenceExpires_false (h : ∀ n, s.timer = some n → n + 1 < 125 * 2 ^ s.silenceK) : s.silenceExpires = false := by
  cases ht : s.timer with
  | none => simp [State.silenceExpires, ht]
  | some n =>
    simp only [State.silenceExpires, ht]
    exact decide_eq_false (Nat.not_le.mpr (h n ht))

theorem step_of_none (h : s.pending = []) : step s = tick s := by rw [step, h]

theorem tick_of_none (h : s.expiries = []) : tick s = .next (serveLines s.older) := by
  rw [tick, h]
  rfl

theorem tick_of_one {x : Expiry} (h : s.expiries = [x]) : tick s = .next (serveLines (expire x s.older)) := by
  rw [tick, h]
  rfl

/-! ### Staleness and the interlocks -/

theorem exec_laneStale (l : LaneId) (s : State) : exec (.laneStale l) s = .next (serveLines (laneGoesStale l s)) := rfl

theorem laneGoesStale_of_none (h : s.lane l = none) : laneGoesStale l s = s := by rw [laneGoesStale, h]

theorem laneGoesStale_of_exempt (h : s.lane l = some e) (hs : e.stale = true ∨ e.role = .force) : laneGoesStale l s = s := by
  simp only [laneGoesStale, h]
  split
  · rfl
  · next hn => rw [hs.resolve_left hn]

theorem updLane_of_some (h : s.lane l = some e) (k : Lane → Lane) : s.updLane l k = s.setLane l (some (k e)) := by
  rw [State.updLane, h]
  rfl

theorem laneGoesStale_of_fresh (h : s.lane l = some e) (hs : e.stale = false) (hr : e.role ≠ .force) : laneGoesStale l s =
    if e.role = .probe then probeCondition e.spout (s.setLane l (some e.goStale))
    else if e.role = .bay then bayCondition e.spout (s.setLane l (some e.goStale))
    else s.setLane l (some e.goStale) := by
  simp only [laneGoesStale, h, hs, Bool.false_eq_true, if_false, updLane_of_some h]
  cases hrole : e.role with
  | force => exact absurd hrole hr
  | gate | air | probe | bay => rfl

theorem permitted_iff : s.permitted i = true ↔ s.silent = false ∧
    (∀ e, s.roleLane i .bay = some e → e.latest = 1 ∧ e.stale = false) ∧
    (∀ e, s.roleLane i .probe = some e → e.latest = 0 ∧ e.stale = false) := by
  have hbay : s.bayPermissive i = true ↔ ∀ e, s.roleLane i .bay = some e → e.latest = 1 ∧ e.stale = false := by
    unfold State.bayPermissive
    cases s.roleLane i .bay <;> simp
  have hprobe : s.probeClear i = true ↔ ∀ e, s.roleLane i .probe = some e → e.latest = 0 ∧ e.stale = false := by
    unfold State.probeClear
    cases s.roleLane i .probe <;> simp
  rw [State.permitted, Bool.and_eq_true, Bool.and_eq_true, hbay, hprobe, Bool.not_eq_true', and_comm]

theorem giveUpAir_eq (p : Spout) : p.giveUpAir =
    { p with place := .neither, gatePending := p.gatePending || p.place == .holder,
             ctl := { p.ctl with pressureWait := p.waitOnRelease } } := by
  obtain ⟨chan, curve, zero, ctl, par, queue, ring, number, place, alerts, due, count, gate, seq⟩ := p
  cases place <;> simp [Spout.giveUpAir, Spout.waitOnRelease]

/-- R142, R152: a spout in AWAIT_AIR goes back to ARMED. -/
theorem probeCondition_awaitAir (h : (s.spout i).ctl.state = .awaitAir) :
    probeCondition i s = s.released i ((s.spout i).giveUpAir.enter .armed) := by
  have hr := release_released s i (fun p => p) (Spout.enter .armed) (fun _ => rfl) fun _ => rfl
  rw [upd_id] at hr
  rw [probeCondition, h]
  exact hr

end Sys2Proof.Machine

namespace Sys2Proof.Settled

open Sys2Proof.Machine

/-- Settles O3: on a millisecond with one expiry, that expiry is what its own command makes of the older state. -/
theorem idleMillisecond : Obligations.IdleMillisecond := by
  intro s hp
  have hlane := older_lane s
  rw [step_of_none hp]
  refine ⟨fun l e he => ?_, fun l he => ?_, fun n hn => ?_, fun hn => ?_, rfl, fun hlanes => ⟨fun ht => ?_, fun n hn hle => ?_⟩,
    fun l e he hx hone ht => ?_⟩
  · rw [hlane, he]; rfl
  · rw [hlane, he]; rfl
  · simp [State.older, hn]
  · simp [State.older, hn]
  · refine tick_of_none ?_
    rw [expiries_of_lanes hlanes, silenceExpires_false ht]
    rfl
  · have hx : s.silenceExpires = true := by simp [State.silenceExpires, hn, silenceTimeout, hle]
    refine tick_of_one (x := .silence) ?_
    rw [expiries_of_lanes hlanes, hx]
    rfl
  · have he' : s.older.lane l = some e.older := by rw [hlane, he]; rfl
    rw [tick_of_one (expiries_of_lane he hx hone (silenceExpires_false ht))]
    refine ⟨fun hr => ?_, fun hr => ?_⟩
    · show Host.Outcome.next (serveLines (expireLane l s.older)) = _
      rw [expireLane_of_force he' hr]
      rfl
    · show Host.Outcome.next (serveLines (expireLane l s.older)) = _
      rw [expireLane_of_latest he' hr]
      rfl

/-- Settles O29: no spout's turn moves another out of the three states, so that each takes its turn, in some order. -/
theorem silenceExpiry : Obligations.SilenceExpiry := by
  intro s n hn
  let t : State := { s with timer := none, silent := true }
  obtain ⟨is, hperm, horder⟩ := inFreeOrder_eq_foldl holdSilent_freed (spoutIds.filter s.silenceHolds) t
  have hnodup : is.Nodup := hperm.nodup_iff.mpr (List.Nodup.filter _ (by decide))
  have hholds : ∀ i ∈ is, t.silenceHolds i = true := fun i hi => (List.mem_filter.mp (hperm.subset hi)).2
  rw [foldl_holdSilent is hnodup hholds] at horder
  have hfilter : s.silenceHolds = fun i =>
      (s.spout i).ctl.state == .awaitAir || (s.spout i).ctl.state == .coarse || (s.spout i).ctl.state == .fine :=
    funext fun i => by rw [Bool.eq_iff_iff, silenceHolds_iff]; simp [or_assoc]
  refine ⟨is, hfilter ▸ hperm, ?_⟩
  have hexpire : exec .silenceExpiry s = .next (serveLines (expireSilence s)) := finish_of_pos (by simp [hn])
  have hmark := silenceMark_of_device (foldl_enterHeld_device .silence is t)
  rw [hexpire]
  refine congrArg _ (congrArg _ ?_)
  show raiseSilence _ (inFreeOrder holdSilent _ _ t) = _
  rw [horder, raiseSilence, hperm.length_eq]
  simp only [State.freed]
  rw [hmark]

/-- Settles O30: staleness acts by the lane's role, and each interlock by the state that it finds. -/
theorem staleLanesAndInterlocks : Obligations.StaleLanesAndInterlocks := by
  refine ⟨⟨fun s l h => by rw [exec_laneStale, laneGoesStale_of_none h], fun s l e h => ⟨fun hs => ?_, fun hs hr => ?_,
    fun hs hr => ?_, fun hs hr => ?_⟩⟩, fun s i => ⟨fun h => ?_, fun h => ?_, fun h => ?_, fun h => ?_, fun h => ?_, fun h hp => ?_,
    fun h => ?_, permitted_iff⟩⟩
  · rw [exec_laneStale, laneGoesStale_of_exempt h hs]
  · rw [exec_laneStale, laneGoesStale_of_fresh h hs (by rcases hr with hr | hr <;> simp [hr]),
      if_neg (by rcases hr with hr | hr <;> simp [hr]), if_neg (by rcases hr with hr | hr <;> simp [hr])]
    rfl
  · rw [exec_laneStale, laneGoesStale_of_fresh h hs (by simp [hr]), if_pos hr]
    rfl
  · rw [exec_laneStale, laneGoesStale_of_fresh h hs (by simp [hr]), if_neg (by simp [hr]), if_pos hr]
    rfl
  · simp only [List.mem_cons, List.not_mem_nil, or_false] at h
    rcases h with h | h | h <;> rw [probeCondition, h]
  · rw [probeCondition_awaitAir h, giveUpAir_eq]
    rfl
  · rw [probeCondition]
    cases hst : (s.spout i).ctl.state <;> simp_all
  · simp only [List.mem_cons, List.not_mem_nil, or_false] at h
    rcases h with h | h | h <;> rw [bayCondition, h]
  · rw [bayCondition]
    cases hst : (s.spout i).ctl.state <;> simp_all
  · rw [examineArmed_of_permitted ⟨h, hp⟩]
    exact congrArg _ (upd_congr s i rfl)
  · refine examineArmed_of_not fun hx => ?_
    rcases h with h | h
    · exact h hx.1
    · rw [h] at hx; exact absurd hx.2 (by simp)

end Sys2Proof.Settled
end

section
/-! PROOFS. The course of a run of bytes at either port (R146, R161, R162, R174), and the settled statements about it. -/

set_option Elab.async false

namespace Sys2Proof.Machine

variable {s : State} {run : Run} {l : LaneId} {e : Lane}

/-! ### Runs of bytes -/

theorem isFrame_iff : isFrame run = true ↔ 4 ≤ run.length ∧ run.length ≤ 40 := by simp [isFrame]

theorem goodCrc_iff : goodCrc run = true ↔ run.getLastD 0 = crcOf run.dropLast := by simp [goodCrc]

theorem namedLane_of_some (hl : l.val = byteAt run 1) (he : s.lane l = some e) : s.namedLane run = some (l, e) := by
  simp [State.namedLane, ← hl, he]

theorem namedLane_of_none (h : ∀ l : LaneId, l.val = byteAt run 1 → s.lane l = none) : s.namedLane run = none := by
  unfold State.namedLane
  cases hf : laneOfField (byteAt run 1) with
  | none => rfl
  | some l => simp [h l (val_of_laneOfField hf)]

/-! ### The F-port -/

theorem exec_fPortFrame (run : Run) (s : State) : exec (.fPortFrame run) s = .next (serveLines (fPortRun run s)) := rfl

theorem fPortRun_of_unframed (h : ¬ (4 ≤ run.length ∧ run.length ≤ 40)) : fPortRun run s = countFraming s := by
  rw [fPortRun, if_pos (by simpa using mt isFrame_iff.mp h)]

theorem fPortRun_of_other (h : 4 ≤ run.length ∧ run.length ≤ 40) (ht : run.getD 0 0 ≠ typeSample) :
    fPortRun run s = passToPlant run s := by
  rw [fPortRun, if_neg (by simpa using isFrame_iff.mpr h), if_neg ht]

theorem fPortRun_of_sample (h : 4 ≤ run.length ∧ run.length ≤ 40) (ht : run.getD 0 0 = typeSample) : fPortRun run s =
    match s.namedLane run with
    | none => passToPlant run s
    | some (l, e) => routeSample l e run s := by
  rw [fPortRun, if_neg (by simpa using isFrame_iff.mpr h), if_pos ht] <;> rfl

theorem fPortRun_of_routed (h : 4 ≤ run.length ∧ run.length ≤ 40) (ht : run.getD 0 0 = typeSample)
    (hl : l.val = byteAt run 1) (he : s.lane l = some e) : fPortRun run s = routeSample l e run s := by
  rw [fPortRun_of_sample h ht, namedLane_of_some hl he]

theorem routeSample_of_malformed (h : run.length ≠ 7) : routeSample l e run s = countFraming s := by
  rw [routeSample, if_pos h]

theorem routeSample_of_badCrc (h : run.length = 7) (hc : run.getLastD 0 ≠ crcOf run.dropLast) :
    routeSample l e run s = s.updLane l fun e => { e with crc := e.crc.bump } := by
  rw [routeSample, if_neg (by simp [h]), if_neg (mt goodCrc_iff.mp hc)]

theorem routeSample_of_good (h : run.length = 7) (hc : run.getLastD 0 = crcOf run.dropLast) :
    routeSample l e run s = actOnSample l e run (forwardCopy e run s) := by
  rw [routeSample, if_neg (by simp [h]), if_pos (goodCrc_iff.mpr hc)]

theorem actOnSample_of_force (h : e.role = .force) : actOnSample l e run s =
    deliverForce l e.spout (run.getD 2 0) (headStatusOf (run.getD 3 0)) (sampleValue run) s := by
  simp only [actOnSample, h]

theorem actOnSample_of_latest (h : e.role ≠ .force) : actOnSample l e run s =
    takeLatest l e (run.getD 2 0) (headStatusOf (run.getD 3 0)) (sampleValue run) s := by
  cases hr : e.role with
  | force => exact absurd hr h
  | gate | air | probe | bay => simp only [actOnSample, hr]

/-! ### The P-port -/

theorem exec_pPortFrame (run : Run) (s : State) : exec (.pPortFrame run) s = .next (serveLines (pPortRun run s)) := rfl

theorem pPortRun_of_unframed (h : ¬ (4 ≤ run.length ∧ run.length ≤ 40)) : pPortRun run s = countFraming s := by
  rw [pPortRun, if_pos (by simpa using mt isFrame_iff.mp h)]

theorem pPortRun_of_other (h : 4 ≤ run.length ∧ run.length ≤ 40) (ht : run.getD 0 0 ≠ typeRequest) :
    pPortRun run s = passToField run s := by
  rw [pPortRun, if_neg (by simpa using isFrame_iff.mpr h), if_neg ht]

theorem pPortRun_of_short (h : 4 ≤ run.length ∧ run.length ≤ 40) (ht : run.getD 0 0 = typeRequest) (hl : run.length < 6) :
    pPortRun run s = shortRequestRun run s := by
  rw [pPortRun, if_neg (by simpa using isFrame_iff.mpr h), if_pos ht, if_pos hl]

theorem pPortRun_of_request (h : 4 ≤ run.length ∧ run.length ≤ 40) (ht : run.getD 0 0 = typeRequest) (hl : 6 ≤ run.length) :
    pPortRun run s = requestRun run s := by
  rw [pPortRun, if_neg (by simpa using isFrame_iff.mpr h), if_pos ht, if_neg (Nat.not_lt.mpr hl)]

/-! ### Request frames -/

theorem requestFrame_length (h : ReqHeader) (code : Byte) (ps : List Byte) : (requestFrame h code ps).length = 6 + ps.length := by
  simp [requestFrame, sealFrame]
  omega

theorem goodCrc_sealFrame (bs : List Byte) : goodCrc (sealFrame bs) = true := by
  simp [goodCrc, sealFrame]

theorem requestFrame_goodCrc (h : ReqHeader) (code : Byte) (ps : List Byte) : goodCrc (requestFrame h code ps) = true :=
  goodCrc_sealFrame _

theorem requestParams_requestFrame (h : ReqHeader) (code : Byte) (ps : List Byte) :
    requestParams (requestFrame h code ps) = ps := by
  simp [requestParams, requestFrame, sealFrame]

theorem requestFrame_lengthByte (h : ReqHeader) (code : Byte) {ps : List Byte} (hp : ps.length ≤ 34) :
    byteAt (requestFrame h code ps) 4 = ps.length := by
  have hmod : ps.length % 256 = ps.length := Nat.mod_eq_of_lt (by omega)
  simpa [requestFrame, sealFrame, byteAt, byte] using hmod

/-- R160, R162, R174: the frame of a request takes the course of a request. -/
theorem pPortRun_requestFrame (h : ReqHeader) (code : Byte) (ps : List Byte) (s : State) :
    pPortRun (requestFrame h code ps) s = requestCourse h code ps (perform code ps) s := by
  have hlen := requestFrame_length h code ps
  by_cases hp : 34 < ps.length
  · rw [requestCourse, if_pos hp, pPortRun_of_unframed (by omega)]
  · have hbyte := requestFrame_lengthByte h code (not_lt.mp hp)
    rw [requestCourse, if_neg hp, pPortRun_of_request (by omega) rfl (by omega), requestRun]
    have hfields : (requestFrame h code ps).getD 1 0 = h.address ∧ (requestFrame h code ps).getD 2 0 = h.number ∧
        (requestFrame h code ps).getD 3 0 = code := ⟨rfl, rfl, rfl⟩
    obtain ⟨haddress, hnumber, hcode⟩ := hfields
    rw [haddress, hnumber, hcode, hbyte, hlen, requestFrame_goodCrc, requestParams_requestFrame]
    simp

theorem requestKind_code (k : RequestKind) : requestKind k.code = some k := by cases k <;> rfl

theorem perform_code (k : RequestKind) (ps : List Byte) : perform k.code ps = handler k ps := by
  funext s
  rw [perform, requestKind_code]

theorem requestCourse_of_long {h : ReqHeader} {code : Byte} {ps : List Byte} {act : State → Act} (hp : 34 < ps.length) :
    requestCourse h code ps act s = countFraming s := by rw [requestCourse, if_pos hp]

theorem requestCourse_of_other {h : ReqHeader} {code : Byte} {ps : List Byte} {act : State → Act} (hp : ps.length ≤ 34)
    (ha : s.isAddressed h.address code = false) : requestCourse h code ps act s = passToField (requestFrame h code ps) s := by
  rw [requestCourse, if_neg (Nat.not_lt.mpr hp), if_pos (by simp [ha])]

theorem requestCourse_of_mine {h : ReqHeader} {code : Byte} {ps : List Byte} {act : State → Act} (hp : ps.length ≤ 34)
    (ha : s.isAddressed h.address code = true) : requestCourse h code ps act s =
      if 32 < ps.length then countFraming s else reachHandler h.number code act s := by
  rw [requestCourse, if_neg (Nat.not_lt.mpr hp), if_neg (by simp [ha])]

theorem isAddressed_of_assigned {address code : Byte} (h : s.address ≠ 15) :
    s.isAddressed address code = true ↔ code ≠ 0x02 ∧ address.toNat = s.address := by
  rw [State.isAddressed, if_neg h]
  simp [RequestKind.code]

theorem isAddressed_of_unassigned {address code : Byte} (h : s.address = 15) :
    s.isAddressed address code = true ↔ code = 0x02 ∨ (code = 0x01 ∧ address = 15) := by
  rw [State.isAddressed, if_pos h]
  simp [RequestKind.code]

/-! ### Latest-value lanes -/

theorem seqDistance_eq_zero {last : Option Byte} {seq : Byte} : seqDistance last seq = 0 ↔ last = some seq := by
  cases last with
  | none => simp [seqDistance]
  | some x =>
    have hsub : (seq - x).toNat = 0 ↔ seq - x = 0 := by
      rw [← BitVec.toNat_inj]
      rfl
    simp only [seqDistance, hsub, Option.some.injEq]
    rw [sub_eq_zero, eq_comm]

theorem setLane_setLane (l : LaneId) (a b : Option Lane) (s : State) : (s.setLane l a).setLane l b = s.setLane l b := by
  simp [State.setLane]

theorem takeLatest_of_duplicate {seq : Byte} {hs : HeadStatus} {v : Nat} (he : s.lane l = some e) (h : e.lastSeq = some seq) :
    takeLatest l e seq hs v s = s.setLane l (some e.countDup) := by
  rw [takeLatest, if_pos (seqDistance_eq_zero.mpr h), updLane_of_some he]

theorem takeLatest_of_headFault {seq : Byte} {v : Nat} (he : s.lane l = some e) (h : e.lastSeq ≠ some seq) :
    takeLatest l e seq .headFault v s = s.setLane l (some (e.accept seq (seqDistance e.lastSeq seq) .headFault)) := by
  rw [takeLatest, if_neg (mt seqDistance_eq_zero.mp h), updLane_of_some he]
  rfl

theorem takeLatest_of_usable {seq : Byte} {hs : HeadStatus} {v : Nat} (he : s.lane l = some e) (h : e.lastSeq ≠ some seq)
    (hhs : hs ≠ .headFault) : takeLatest l e seq hs v s = offerLatest e.spout e.role v (s.setLane l (some
      { e with lastSeq := some seq, gap := e.gap.bumpBy (seqDistance e.lastSeq seq - 1), age := 0, stale := false,
               latest := latestValue e.role v })) := by
  rw [takeLatest, if_neg (mt seqDistance_eq_zero.mp h), if_neg hhs, updLane_of_some he,
    updLane_of_some (lane_setLane_same _ _ _), setLane_setLane, Lane.accept, if_neg hhs]
  rfl

end Sys2Proof.Machine

namespace Sys2Proof.Settled

open Sys2Proof.Machine

/-- Settles O4: the frame of a request takes the request's own course, and a code that is in the table names its row. -/
theorem requestIsItsFrame : Obligations.RequestIsItsFrame := by
  refine ⟨fun c k h ps s hc => ?_, fun h code ps s => ?_⟩
  · rw [exec_request hc, exec_pPortFrame, pPortRun_requestFrame, perform_code]
    rfl
  · rw [exec_pPortFrame, pPortRun_requestFrame]
    rfl

/-- Settles O31: each test of the run of bytes at the F-port in turn. -/
theorem fieldFramesRouted : Obligations.FieldFramesRouted := by
  refine ⟨fun s run => ⟨fun h => ?_, fun h ht => ?_, fun h ht hn => ?_, fun l e h ht hl he hlen => ?_,
    fun l e ht hl he hlen hc => ?_, fun l e ht hl he hlen hc => ?_⟩, fun s run => ⟨fun h => ?_, fun h => ?_, fun h => ?_, fun h => ?_⟩⟩
  · rw [exec_fPortFrame, fPortRun_of_unframed h]
    rfl
  · rw [exec_fPortFrame, fPortRun_of_other h ht]
  · rw [exec_fPortFrame, fPortRun_of_sample h ht, namedLane_of_none hn]
  · rw [exec_fPortFrame, fPortRun_of_routed h ht hl he, routeSample_of_malformed hlen]
    rfl
  · rw [exec_fPortFrame, fPortRun_of_routed (by omega) ht hl he, routeSample_of_badCrc hlen hc, updLane_of_some he]
  · refine ⟨fun hr => ?_, fun hr => ?_⟩ <;>
      rw [exec_fPortFrame, fPortRun_of_routed (by omega) ht hl he, routeSample_of_good hlen hc]
    · rw [actOnSample_of_force hr]
      rfl
    · rw [actOnSample_of_latest hr]
      rfl
  · rw [passToPlant, if_pos h]
  · rw [passToPlant, if_neg (Nat.not_lt.mpr h)]
    rfl
  · rw [passToField, if_pos h]
  · rw [passToField, if_neg (Nat.not_lt.mpr h)]
    rfl

/-- Settles O36: a duplicate, a HEAD_FAULT and a usable value, which goes to its role's consumers. -/
theorem latestValueFrames : Obligations.LatestValueFrames := by
  intro s l e seq hs v he hr
  refine ⟨fun h => takeLatest_of_duplicate he h, fun h => ?_, fun h hhs => ?_⟩
  · rw [takeLatest_of_headFault he h]
    rfl
  · rw [takeLatest_of_usable he h hhs]
    refine ⟨fun hr => ?_, fun hr => ?_, fun hr hv => ?_, fun hr hv => ?_, fun hr hv => ?_, fun hr hv => ?_⟩ <;> rw [hr]
    · rfl
    · rfl
    · subst hv
      rfl
    · simp only [offerLatest, latestValue, if_neg hv, if_true]
      rfl
    · subst hv
      rfl
    · simp only [offerLatest, latestValue, if_neg hv, if_true]
      rfl

/-- Settles O37: each test of the run of bytes at the P-port in turn. -/
theorem plantFramesRouted : Obligations.PlantFramesRouted := by
  intro s run
  refine ⟨fun h => ?_, fun h ht => ?_, fun h ht hl hm => ?_, fun h ht hl hm hg => ?_, fun h ht hl hm hg hb => ?_,
    fun h ht hl ha hb => ?_, fun h ht hl hno => ?_⟩ <;> rw [exec_pPortFrame]
  · rw [pPortRun_of_unframed h]
    rfl
  · rw [pPortRun_of_other h ht]
  · rw [pPortRun_of_request h ht hl, requestRun, if_pos (by simpa using hm)]
  · rw [pPortRun_of_request h ht hl, requestRun, if_neg (by simpa using hm), if_pos (by simpa using mt goodCrc_iff.mp hg)]
    rfl
  · rw [pPortRun_of_request h ht hl, requestRun, if_neg (by simpa using hm), if_neg (by simpa using goodCrc_iff.mpr hg), if_pos hb]
    rfl
  · rw [pPortRun_of_short h ht hl, shortRequestRun, if_pos ⟨ha, hb⟩]
    rfl
  · rw [pPortRun_of_short h ht hl, shortRequestRun, if_neg fun hx => hno.elim hx.1 fun hb => hb hx.2]

/-- Settles O38: the tests of a request's course in turn. -/
theorem requestsTurnedAway : Obligations.RequestsTurnedAway := by
  refine ⟨⟨fun s address code => ⟨isAddressed_of_assigned, isAddressed_of_unassigned⟩, fun c k h ps s hc hp ha => ?_⟩,
    fun c k h ps s hc => ⟨fun hp => ?_, fun ha => ⟨fun hp => ?_, fun hp hr => ?_, fun hp hr hf => ?_⟩⟩⟩ <;> rw [exec_request hc]
  · rw [requestCourse_of_other hp ha]
    rfl
  · rw [requestCourse_of_long hp]
    rfl
  · by_cases hlong : 34 < ps.length
    · rw [requestCourse_of_long hlong]
      rfl
    · rw [requestCourse_of_mine (not_lt.mp hlong) ha, if_pos hp]
      rfl
  · rw [requestCourse_of_mine (by omega) ha, if_neg (by omega), reachHandler, if_pos hr]
    rfl
  · rw [requestCourse_of_mine (by omega) ha, if_neg (by omega), reachHandler, if_neg (by simp [hr]), if_neg (by omega)]
    rfl

end Sys2Proof.Settled
end

section
/-! PROOFS. What each line sends next (R165, R166), and the settled statements about the lines and the two resets. -/

set_option Elab.async false

namespace Sys2Proof.Machine

variable {s : State} {i : SpoutId} {p : Spout}

/-! ### The plant-bound line -/

theorem servePlant_of_busy {o : Outgoing} (h : s.plantLine = some o) : servePlant s = s := by rw [servePlant, h]

theorem servePlant_of_passing {run : Run} {rest : List Run} (hl : s.plantLine = none) (h : s.plantFifo = run :: rest) :
    servePlant s = { s with plantFifo := rest, plantLine := some ⟨run, false⟩ } := by rw [servePlant, hl, h]

theorem servePlant_of_response {r : Outgoing} {rest : List Outgoing} (hl : s.plantLine = none) (hp : s.plantFifo = [])
    (h : s.respFifo = r :: rest) : servePlant s = { s with respFifo := rest, plantLine := some r } := by
  rw [servePlant, hl, hp, h]

/-- R165: the line is free, and neither a frame nor a response waits for it. -/
def State.plantQuiet (s : State) : Prop := s.plantLine = none ∧ s.plantFifo = [] ∧ s.respFifo = []

theorem servePlant_of_quiet (h : s.plantQuiet) : servePlant s = chooseMark s := by
  obtain ⟨hl, hp, hr⟩ := h
  rw [servePlant, hl, hp, hr]

theorem alertKinds_split (k : AlertKind) : alertKinds = alertKinds.take k.index ++ k :: alertKinds.drop (k.index + 1) := by
  cases k <;> rfl

theorem index_of_mem_take {k k' : AlertKind} (h : k' ∈ alertKinds.take k.index) : k'.index < k.index := by
  cases k <;> cases k' <;> revert h <;> decide

theorem spoutIds_split (i : SpoutId) : spoutIds = spoutIds.take i.val ++ i :: spoutIds.drop (i.val + 1) := by
  fin_cases i <;> rfl

theorem lt_of_mem_take {i j : SpoutId} (h : j ∈ spoutIds.take i.val) : j < i := by
  revert i j; decide

/-- R165: the pending kind of the lowest code. -/
theorem firstAlert_of_first {k : AlertKind} (hk : p.alerts[k.index].pending = true)
    (hlow : ∀ k' : AlertKind, k'.index < k.index → p.alerts[k'.index].pending = false) : p.firstAlert = some k := by
  have hnone : (alertKinds.take k.index).find? (fun k => p.alerts[k.index].pending) = none :=
    List.find?_eq_none.mpr fun k' hk' => by rw [hlow k' (index_of_mem_take hk')]; exact Bool.false_ne_true
  rw [Spout.firstAlert, alertKinds_split k, List.find?_append, hnone, Option.none_or, List.find?_cons_of_pos (by exact hk)]

theorem firstAlert_of_none (h : ∀ k : AlertKind, p.alerts[k.index].pending = false) : p.firstAlert = none :=
  List.find?_eq_none.mpr fun k _ => by rw [h k]; exact Bool.false_ne_true

theorem alertingSpout_of_first {k : AlertKind} (hi : (s.spout i).firstAlert = some k)
    (hlow : ∀ j < i, (s.spout j).firstAlert = none) : s.alertingSpout = some (i, k) := by
  refine List.findSome?_eq_some_iff.mpr ⟨_, i, _, spoutIds_split i, by rw [hi]; rfl, fun j hj => ?_⟩
  rw [hlow j (lt_of_mem_take hj)]
  rfl

theorem alertingSpout_of_none (h : ∀ i, (s.spout i).firstAlert = none) : s.alertingSpout = none :=
  List.findSome?_eq_none_iff.mpr fun i _ => by rw [h i]; rfl

theorem places_split {n : Nat} (h : n < 4) :
    [0, 1, 2, 3] = [0, 1, 2, 3].take n ++ n :: [0, 1, 2, 3].drop (n + 1) := by interval_cases n <;> rfl

theorem lt_of_mem_places {n m : Nat} (h : n < 4) (hm : m ∈ [0, 1, 2, 3].take n) : m < n := by
  interval_cases n <;> simp at hm <;> omega

theorem roundFrom_val (s : State) (n : Nat) : (s.roundFrom n).val = (s.lastReported.val + 1 + n) % 4 := rfl

/-- R165: the first due report, counting round from the spout after the last reported. -/
theorem reportingSpout_of_first {n : Nat} (hn : n < 4) (hi : s.roundFrom n = i) (hdue : (s.spout i).reportDue = true)
    (hlow : ∀ m < n, (s.spout (s.roundFrom m)).reportDue = false) : s.reportingSpout = some i := by
  have hnone : (([0, 1, 2, 3].take n).map s.roundFrom).find? (fun i => (s.spout i).reportDue) = none :=
    List.find?_eq_none.mpr fun j hj => by
      obtain ⟨m, hm, rfl⟩ := List.mem_map.mp hj
      simp [hlow m (lt_of_mem_places hn hm)]
  rw [State.reportingSpout, places_split hn, List.map_append, List.map_cons, hi, List.find?_append, hnone, Option.none_or,
    List.find?_cons_of_pos (by exact hdue)]

theorem reportingSpout_of_none (h : ∀ i, (s.spout i).reportDue = false) : s.reportingSpout = none :=
  List.find?_eq_none.mpr fun i _ => by simp [h i]

theorem chooseMark_of_alert {k : AlertKind} (h : s.alertingSpout = some (i, k)) : chooseMark s = sendSpoutAlert i k s := by
  rw [chooseMark, h]

theorem chooseMark_of_no_alert (h : s.alertingSpout = none) : chooseMark s =
    if s.silenceMark.pending then
      { s with silenceMark := s.silenceMark.taken
               plantLine := some ⟨alertFrame s.address 4 10 s.silenceMark, false⟩ }
    else if s.overrunMark.pending then
      { s with overrunMark := s.overrunMark.taken
               plantLine := some ⟨alertFrame s.address 4 11 s.overrunMark, false⟩ }
    else
      match s.reportingSpout with
      | some i => sendReport i s
      | none => s := by
  rw [chooseMark, h] <;> rfl

theorem chooseMark_of_report (ha : s.alertingSpout = none) (hs : s.silenceMark.pending = false)
    (ho : s.overrunMark.pending = false) (hr : s.reportingSpout = some i) : chooseMark s = sendReport i s := by
  rw [chooseMark_of_no_alert ha, if_neg (by simp [hs]), if_neg (by simp [ho]), hr]

theorem chooseMark_of_nothing (ha : s.alertingSpout = none) (hs : s.silenceMark.pending = false)
    (ho : s.overrunMark.pending = false) (hr : s.reportingSpout = none) : chooseMark s = s := by
  rw [chooseMark_of_no_alert ha, if_neg (by simp [hs]), if_neg (by simp [ho]), hr]

theorem sendSpoutAlert_eq (i : SpoutId) (k : AlertKind) (s : State) :
    let m := (s.spout i).alerts[k.index]
    sendSpoutAlert i k s =
      { s.upd i fun p => { p with alerts := p.alerts.set k.index { m with pending := false, count := 0 } } with
        plantLine := some ⟨alertFrame s.address i.val (k.index.val + 1) m, false⟩ } := by
  intro m
  have hupd : (s.upd i fun p => { p with alerts := p.alerts.set k.index p.alerts[k.index].taken }) =
      s.upd i fun p => { p with alerts := p.alerts.set k.index { m with pending := false, count := 0 } } := upd_congr s i rfl
  rw [sendSpoutAlert, hupd]

theorem reportFlags_eq (s : State) (p : Spout) : reportFlags s p =
    (if p.zero.makeupOwed then 1 else 0) + (if p.zero.owed = 8 then 2 else 0) + (if s.silent then 4 else 0) +
      (if p.curve.exchangePending then 8 else 0) := by
  simp [reportFlags, flagBit]

theorem heldCode_eq (p : Spout) : p.heldCode = match p.ctl.heldReason with
    | none => 0
    | some .command => 1
    | some .bay => 2
    | some .air => 3
    | some .silence => 4 := by
  unfold Spout.heldCode
  cases p.ctl.heldReason with
  | none => rfl
  | some r => cases r <;> rfl

/-! ### The field-bound line -/

theorem serveField_of_busy {o : Outgoing} (h : s.fieldLine = some o) : serveField s = s := by rw [serveField, h]

theorem serveField_of_free (h : s.fieldLine = none) : serveField s = chooseField spoutIds s := by rw [serveField, h]

theorem chooseField_skip (before after : List SpoutId) (h : ∀ j ∈ before, (s.spout j).gatePending = false) :
    chooseField (before ++ after) s = chooseField after s := by
  induction before with
  | nil => rfl
  | cons j before ih =>
    rw [List.cons_append, chooseField, if_neg (by simp [h j List.mem_cons_self])]
    exact ih fun k hk => h k (List.mem_cons_of_mem _ hk)

theorem chooseField_of_none (h : ∀ i, (s.spout i).gatePending = false) : chooseField spoutIds s = sendFieldPass s :=
  (congrArg (fun is => chooseField is s) (List.append_nil _).symm).trans (chooseField_skip spoutIds [] fun j _ => h j)

/-- R166: the choice comes to the lowest-numbered spout whose gate order is pending. -/
theorem chooseField_of_first (hlow : ∀ j < i, (s.spout j).gatePending = false) (hi : (s.spout i).gatePending = true) :
    chooseField spoutIds s =
      match s.laneOf i .gate with
      | some l => sendGateOrder i l s
      | none => chooseField (spoutIds.drop (i.val + 1)) (dropGateOrder i s) := by
  rw [spoutIds_split i, chooseField_skip _ _ fun j hj => hlow j (lt_of_mem_take hj), chooseField, if_pos hi, ← spoutIds_split i] <;> rfl

theorem sendFieldPass_of_empty (h : s.fieldFifo = []) : sendFieldPass s = s := by rw [sendFieldPass, h]

theorem sendFieldPass_of_waiting {run : Run} {rest : List Run} (h : s.fieldFifo = run :: rest) :
    sendFieldPass s = { s with fieldFifo := rest, fieldLine := some ⟨run, false⟩ } := by rw [sendFieldPass, h]

/-- R166: a spout with no gate order pending is passed over. -/
theorem serveField_dropGateOrder (hl : s.fieldLine = none) (hlow : ∀ j < i, (s.spout j).gatePending = false) :
    serveField (dropGateOrder i s) = chooseField (spoutIds.drop (i.val + 1)) (dropGateOrder i s) := by
  have hsplit : spoutIds = (spoutIds.take i.val ++ [i]) ++ spoutIds.drop (i.val + 1) := by
    rw [List.append_assoc]
    exact spoutIds_split i
  have hskip : ∀ j ∈ spoutIds.take i.val ++ [i], ((dropGateOrder i s).spout j).gatePending = false := fun j hj => by
    rw [dropGateOrder, spout_upd]
    split
    · rfl
    · next hji =>
      rcases List.mem_append.mp hj with hj | hj
      · exact hlow j (lt_of_mem_take hj)
      · exact absurd (List.mem_singleton.mp hj) hji
  rw [serveField_of_free (by exact hl), hsplit, chooseField_skip _ _ hskip, ← hsplit]

theorem gateOrderFrame_eq (l : LaneId) (p : Spout) : gateOrderFrame l p = sealFrame
    ([0x20, byte l.val] ++ be16 p.ctl.sentDemand ++ [if p.place = .holder then 1 else 0, p.orderSeq]) := by
  have hflag : byte (flagBit 0 (p.place == .holder)) = if p.place = .holder then 1 else 0 := by cases p.place <;> rfl
  rw [gateOrderFrame, hflag]
  rfl

/-! ### The ends of transmissions and the resets -/

theorem exec_pPortLineFree (s : State) : exec .pPortLineFree s = .next (serveLines (endPlantFrame s)) := rfl

theorem exec_fPortLineFree (s : State) : exec .fPortLineFree s = .next (serveLines { s with fieldLine := none }) := rfl

theorem endPlantFrame_of_none (h : s.plantLine = none) : endPlantFrame s = s := by rw [endPlantFrame, h]

theorem endPlantFrame_of_some {o : Outgoing} (h : s.plantLine = some o) : endPlantFrame s =
    if o.isRestart then restartNow { s with plantLine := none } else { s with plantLine := none } := by
  obtain ⟨frame, isRestart⟩ := o
  rw [endPlantFrame, h]
  cases isRestart <;> rfl

/-- With no work for either line, the arbiters choose nothing. -/
theorem serveLines_of_nothing (hq : s.plantFifo = [] ∧ s.respFifo = []) (ha : ∀ i, (s.spout i).firstAlert = none)
    (hs : s.silenceMark.pending = false) (ho : s.overrunMark.pending = false) (hr : ∀ i, (s.spout i).reportDue = false)
    (hf : s.fieldFifo = []) (hg : ∀ i, (s.spout i).gatePending = false) : serveLines s = s := by
  have hplant : servePlant s = s := by
    cases hl : s.plantLine with
    | some o => exact servePlant_of_busy hl
    | none =>
      rw [servePlant_of_quiet ⟨hl, hq⟩]
      exact chooseMark_of_nothing (alertingSpout_of_none ha) hs ho (reportingSpout_of_none hr)
  rw [serveLines, hplant]
  cases hl : s.fieldLine with
  | some o => exact serveField_of_busy hl
  | none => rw [serveField_of_free hl, chooseField_of_none hg, sendFieldPass_of_empty hf]

theorem BankStatus.restart_eq (st : BankStatus) : st.restart = if st = .pending then .standbyValid else st := by
  cases st <;> rfl

theorem restartPending_of_device {s t : State} (h : t.device = s.device) : t.restartPending = s.restartPending := by
  have h' := congrArg State.restartPending h
  exact h'

theorem restartPending_noteAccepted (s : State) : (noteAccepted s).restartPending = s.restartPending :=
  restartPending_of_device (s := s.awoken) (noteAccepted_device s)

/-- R184: what an accepted RESTART leaves. -/
theorem acceptRequest_restart (number : Byte) (s : State) :
    let t := noteAccepted { s with restartPending := true }
    acceptRequest number 0x08 (restartAct []) s = { t with respFifo := t.respFifo ++
      [⟨sealFrame [0x31, byte t.address, number, 0x08, 0, 0], true⟩] } := rfl

theorem firstAlert_reset : Spout.reset.firstAlert = none := by decide

theorem serveLines_powerOn (s : State) : serveLines (powerOn s) = powerOn s := by
  have hspout : ∀ i, (powerOn s).spout i = Spout.reset := powerOn_spout s
  refine serveLines_of_nothing ⟨rfl, rfl⟩ (fun i => ?_) rfl rfl (fun i => ?_) rfl fun i => ?_ <;> rw [hspout]
  · exact firstAlert_reset
  · rfl
  · rfl

end Sys2Proof.Machine

namespace Sys2Proof.Settled

open Sys2Proof.Machine

/-- Settles O39: each source of the plant-bound line in turn. -/
theorem plantLineChoice : Obligations.PlantLineChoice := by
  intro s quiet silentSpouts
  have hnone : silentSpouts → s.alertingSpout = none := fun h => alertingSpout_of_none fun i => firstAlert_of_none (h i)
  refine ⟨fun o h => servePlant_of_busy h, fun run rest hl h => servePlant_of_passing hl h,
    fun r rest hl hp h => servePlant_of_response hl hp h, fun i k hq hk hj hlow => ?_, fun hq ha hs => ?_, fun hq ha hs ho => ?_,
    fun hq ha hs ho hr => ?_, fun i n hq ha hs ho hn hi hdue hlow => ?_⟩ <;> rw [servePlant_of_quiet hq]
  · rw [chooseMark_of_alert (alertingSpout_of_first (firstAlert_of_first hk hlow) fun j hji => firstAlert_of_none (hj j hji))]
    exact sendSpoutAlert_eq i k s
  · rw [chooseMark_of_no_alert (hnone ha), if_pos hs]
    rfl
  · rw [chooseMark_of_no_alert (hnone ha), if_neg (by simp [hs]), if_pos ho]
    rfl
  · exact chooseMark_of_nothing (hnone ha) hs ho (reportingSpout_of_none hr)
  · have hround : s.roundFrom n = i := Fin.ext (by rw [roundFrom_val, hi])
    have hdueLow : ∀ m < n, (s.spout (s.roundFrom m)).reportDue = false := fun m hm => hlow _ m hm (roundFrom_val s m)
    rw [chooseMark_of_report (hnone ha) hs ho (reportingSpout_of_first hn hround hdue hdueLow), sendReport, reportFrame,
      reportFlags_eq, heldCode_eq]
    rfl

/-- Settles O40: the spouts in the order of their numbers, and then the FIFO. -/
theorem fieldLineChoice : Obligations.FieldLineChoice := by
  refine ⟨fun s => ⟨fun o h => serveField_of_busy h, fun hl hn => ⟨fun hf => ?_, fun run rest hf => ?_⟩, fun i hl hlow hi => ?_⟩,
    fun s => ⟨fun o ho hr => ?_, fun hl => ?_, fun hl => ?_, rfl⟩⟩
  · rw [serveField_of_free hl, chooseField_of_none hn, sendFieldPass_of_empty hf]
  · rw [serveField_of_free hl, chooseField_of_none hn, sendFieldPass_of_waiting hf]
  · refine ⟨fun hlane => ?_, fun l hlane => ?_⟩
    · rw [serveField_of_free hl, chooseField_of_first hlow hi, hlane]
      exact (serveField_dropGateOrder hl hlow).symm
    · rw [serveField_of_free hl, chooseField_of_first hlow hi, hlane, ← gateOrderFrame_eq]
      rfl
  · rw [exec_pPortLineFree, endPlantFrame_of_some ho, hr]
    rfl
  · rw [exec_pPortLineFree, endPlantFrame_of_none hl]
  · rw [exec_fPortLineFree, ← hl]

/-- Settles O41: the marker of RESTART's response brings the reset at the end of its transmission, and a reset leaves the arbiters
nothing to send. -/
theorem restartAndPowerOn : Obligations.RestartAndPowerOn := by
  refine ⟨fun s h ht => ⟨?_, ?_, fun ps hps hlen => ?_⟩, fun s frame hl => ⟨restartNow { s with plantLine := none }, ?_, fun i => ?_,
    fun l => ?_, rfl⟩, fun s => ?_⟩
  · rw [exec_request (k := .restart) rfl, requestCourse_taken (code := RequestKind.restart.code) _ ht (Nat.zero_le _)]
    exact congrArg (fun u => Host.Outcome.next (serveLines u)) (acceptRequest_restart h.number s)
  · exact restartPending_noteAccepted _
  · exact answers_of rfl ht hlen (d := .bytes []) (by simp [handler, restartAct, hps]) rfl
  · rw [exec_pPortLineFree, endPlantFrame_of_some hl]
    rfl
  · have hspout : ({ s with plantLine := none } : State).spout i = s.spout i := rfl
    rw [restartNow_spout, hspout, Spout.restart, CurveStore.restart, BankStatus.restart_eq, BankStatus.restart_eq]
    rfl
  · exact restartNow_lane { s with plantLine := none } l
  · show Host.Outcome.next (serveLines (powerOn s)) = _
    rw [serveLines_powerOn]
    rfl

end Sys2Proof.Settled
end

section
/-! PROOFS. The spout requests by the state that each finds (R57 to R76, R50), and the settled statements about them. -/

set_option Elab.async false

namespace Sys2Proof.Machine

variable {s : State} {i : SpoutId} {p : Spout}

/-! ### Every spout request -/

theorem handler_spoutRequest {k : RequestKind}
    (hk : k ∈ [RequestKind.proceed, .abort, .hold, .resume, .park, .unpark, .clear, .zeroNow]) :
    ∃ act, ∀ ps s, handler k ps s = onSpout ps act s := by
  simp only [List.mem_cons, List.not_mem_nil, or_false] at hk
  rcases hk with rfl | rfl | rfl | rfl | rfl | rfl | rfl | rfl <;> exact ⟨_, fun _ _ => rfl⟩

theorem onSpout_of_badLength {ps : List Byte} {act : SpoutId → State → State × Status} (h : ps.length ≠ 1) :
    onSpout ps act s = Act.only s .badParam (.spoutState none) := by rw [onSpout, if_pos h]

theorem onSpout_of_noSpout {b : Byte} {act : SpoutId → State → State × Status} (h : 3 < b.toNat) :
    onSpout [b] act s = Act.only s .badSpout (.spoutState none) := by
  have hb : byteAt [b] 0 = b.toNat := rfl
  rw [onSpout, if_neg (by simp), hb, spoutOfField_none h]

theorem build_noSpout : (ReplyData.spoutState none).build = fun _ => [0, 0] := rfl

/-! ### PROCEED -/

theorem proceed_ready_open (h : (s.spout i).ctl.state = .ready) (hm : (s.spout i).zero.makeupOwed = false) :
    proceed i s = (openCompartment i s, .ok) := by simp [proceed, h, hm]

theorem proceed_ready_mark (h : (s.spout i).ctl.state = .ready) (hm : (s.spout i).zero.makeupOwed = true) :
    proceed i s = (s.upd i Spout.markProceed, .ok) := by simp [proceed, h, hm]

theorem proceed_zeroing (h : (s.spout i).ctl.state = .zeroing) : proceed i s = proceedZeroing i s := by
  simp only [proceed, h]

theorem proceedZeroing_open {st : ZeroStep} (h : (s.spout i).zero.step = some st) (ho : st.origin = .ready)
    (hk : st.kind ≠ .makeup) : proceedZeroing i s = (openCompartment i s, .ok) := by
  obtain ⟨kind, origin, taken, sum, length, band⟩ := st
  subst ho
  cases kind with
  | makeup => exact absurd rfl hk
  | normal | zeroNow => simp only [proceedZeroing, h]

theorem proceedZeroing_mark {st : ZeroStep} (h : (s.spout i).zero.step = some st) (ho : st.origin = .ready)
    (hk : st.kind = .makeup) : proceedZeroing i s = (s.upd i Spout.markProceed, .ok) := by
  obtain ⟨kind, origin, taken, sum, length, band⟩ := st
  subst ho hk
  simp only [proceedZeroing, h]

theorem proceedZeroing_refused {st : ZeroStep} (h : (s.spout i).zero.step = some st) (ho : st.origin = .idle) :
    proceedZeroing i s = (s, .refusedState) := by
  obtain ⟨kind, origin, taken, sum, length, band⟩ := st
  subst ho
  simp only [proceedZeroing, h]

theorem proceed_refused (h : (s.spout i).ctl.state ∉ [SpoutState.ready, .zeroing]) : proceed i s = (s, .refusedState) := by
  cases hst : (s.spout i).ctl.state <;> simp_all [proceed]

/-! ### ABORT -/

theorem markAborted_of_cons {o : Order} {rest : List Order} (h : p.queue = o :: rest) :
    p.markAborted = { p with queue := { o with aborted := true } :: rest } := by rw [Spout.markAborted, h]

theorem examineZeroing_place (p : Spout) : p.examineZeroing.place = p.place := by unfold Spout.examineZeroing; split <;> rfl

theorem moveOn_place (p : Spout) : p.moveOn.place = p.place := by
  unfold Spout.moveOn Spout.settle
  split
  · exact examineZeroing_place _
  · split <;> exact examineZeroing_place _

theorem markAborted_place (p : Spout) : p.markAborted.place = p.place := by unfold Spout.markAborted; split <;> rfl

theorem endAborted_place (p : Spout) : p.endAborted.place = p.place :=
  (moveOn_place _).trans (Spout.recordResult_place p .aborted)

theorem abortWaiting_eq : abortWaiting i s = s.released i (s.spout i).markAborted.giveUpAir.endAborted :=
  release_released s i Spout.markAborted Spout.endAborted markAborted_place endAborted_place

theorem abort_waiting (h : (s.spout i).ctl.state = .armed ∨ (s.spout i).ctl.state = .awaitAir) :
    abort i s = (abortWaiting i s, .ok) := by rcases h with h | h <;> simp only [abort, h]

theorem abort_loading (h : (s.spout i).ctl.state = .coarse ∨ (s.spout i).ctl.state = .fine ∨ (s.spout i).ctl.state = .held) :
    abort i s = (abortLoading i s, .ok) := by rcases h with h | h | h <;> simp only [abort, h]

theorem abort_tail (h : (s.spout i).ctl.state = .tailing) : abort i s =
    if (s.spout i).ctl.endReason = some .abort then (s, .okNoop) else (s.upd i Spout.abortTail, .ok) := by
  simp only [abort, h]

theorem abort_ready (h : (s.spout i).ctl.state = .ready) : abort i s = (s.upd i Spout.abortReady, .ok) := by
  simp only [abort, h]

theorem abort_refused
    (h : (s.spout i).ctl.state ∉ [SpoutState.armed, .awaitAir, .coarse, .fine, .held, .tailing, .ready]) :
    abort i s = (s, .refusedState) := by
  cases hst : (s.spout i).ctl.state <;> simp_all [abort]

theorem settle_eq (p : Spout) : p.settle =
    ({ p with reportDue := true, ctl := { p.ctl with state := if p.queue = [] then .idle else .ready } } : Spout).examineZeroing := by
  rw [Spout.settle]
  cases h : p.queue <;> simp [Spout.enter, SpoutState.stuckExempt, h]

/-! ### RESUME -/

theorem resume_refused (h : (s.spout i).ctl.state ≠ .held) : resume i s = (s, .refusedState) := by rw [resume, if_neg h]

theorem resume_waits (h : (s.spout i).ctl.state = .held) (hb : (s.spout i).ctl.heldReason = some .bay)
    (hp : s.bayPermissive i = false) : resume i s = (s, .refusedState) := by
  rw [resume, if_pos h, if_pos ⟨hb, by simp [hp]⟩]

theorem resume_goes (h : (s.spout i).ctl.state = .held)
    (hg : (s.spout i).ctl.heldReason ≠ some .bay ∨ s.bayPermissive i = true) : resume i s = (resumeHeld i s, .ok) := by
  rw [resume, if_pos h, if_neg fun hx => ?_]
  obtain ⟨hb, hp⟩ := hx
  rcases hg with hg | hg
  · exact hg hb
  · simp [hg] at hp

theorem resumeHeld_eq : resumeHeld i s =
    if s.probeClear i = false then probeCondition i (s.upd i Spout.leaveHeld)
    else if s.bayPermissive i = false then bayCondition i (s.upd i Spout.leaveHeld)
    else grantDecision ((s.upd i Spout.leaveHeld).upd i Spout.becomeWaiter) := by
  simp only [resumeHeld, upd_probeClear, upd_bayPermissive, Bool.not_eq_true']
  rfl

/-! ### PARK, UNPARK, CLEAR and ZERO_NOW -/

theorem configured_iff : s.configured i = true ↔ (s.spout i).curve.valid = true ∧ (s.laneOf i .force).isSome = true ∧
    (s.laneOf i .gate).isSome = true ∧ (s.laneOf i .air).isSome = true := by
  simp only [State.configured, Bool.and_eq_true, and_assoc]

theorem unpark_refused (h : (s.spout i).ctl.state ≠ .parked) : unpark i s = (s, .refusedState) := by rw [unpark, if_neg h]

theorem unpark_parked (h : (s.spout i).ctl.state = .parked) :
    unpark i s = if s.configured i then (s.upd i Spout.unpark, .ok) else (s, .notConfigured) := by rw [unpark, if_pos h]

/-- R45, R47, R58: the wake goes through IDLE to a MAKEUP step. -/
theorem unpark_eq (h : p.zero.retryWait = none) : p.unpark =
    { p with
      reportDue := true
      ctl := { p.ctl with state := .zeroing }
      zero := { p.zero with
        stepsDone := 0, partialSum := 0, makeupOwed := true, dueCount := 0
        step := some ⟨.makeup, .idle, 0, 0, 256, p.par.zeroBand⟩ } } := by
  have hdue : (({ p with zero := p.zero.unpark } : Spout).enter .idle).zeroingDue = true :=
    zeroingDue_iff.mpr ⟨.inl rfl, h, .inl rfl⟩
  rw [Spout.unpark, examineZeroing_of_due hdue]
  rfl

theorem park_idle (h : (s.spout i).ctl.state = .idle) : park i s = (s.upd i Spout.park, .ok) := by simp only [park, h]

theorem park_ready (h : (s.spout i).ctl.state = .ready) : park i s = (s, .okNoop) := by simp only [park, h]

theorem park_zeroing_idle {st : ZeroStep} (h : (s.spout i).ctl.state = .zeroing) (hs : (s.spout i).zero.step = some st)
    (ho : st.origin = .idle) : park i s = (s.upd i Spout.park, .ok) := by
  obtain ⟨kind, origin, taken, sum, length, band⟩ := st
  subst ho
  simp only [park, h, hs]

theorem park_zeroing_ready {st : ZeroStep} (h : (s.spout i).ctl.state = .zeroing) (hs : (s.spout i).zero.step = some st)
    (ho : st.origin = .ready) : park i s = (s, .okNoop) := by
  obtain ⟨kind, origin, taken, sum, length, band⟩ := st
  subst ho
  simp only [park, h, hs]

theorem park_refused (h : (s.spout i).ctl.state ∉ [SpoutState.idle, .ready, .zeroing]) : park i s = (s, .refusedState) := by
  cases hst : (s.spout i).ctl.state <;> simp_all [park]

theorem clear_refused (h : (s.spout i).ctl.state ≠ .faulted) : clear i s = (s, .refusedState) := by rw [clear, if_neg h]

theorem gateReadsShut_iff : s.gateReadsShut i = true ↔ (s.gate i).1 ≤ 50 ∧ (s.gate i).2 = false := by
  simp [State.gateReadsShut]

theorem clear_taken (h : (s.spout i).ctl.state = .faulted)
    (hg : (s.spout i).ctl.faultKind ≠ some .gateStuck ∨ s.gateReadsShut i = true) :
    clear i s = (s.upd i Spout.clearFault, .ok) := by
  rw [clear, if_pos h, if_neg fun hx => ?_]
  obtain ⟨hk, hs⟩ := hx
  rcases hg with hg | hg
  · exact hg hk
  · simp [hg] at hs

theorem clear_stuck (h : (s.spout i).ctl.state = .faulted) (hk : (s.spout i).ctl.faultKind = some .gateStuck)
    (hg : ¬ s.gateReadsShut i = true) : clear i s = (s, .refusedState) := by
  rw [clear, if_pos h, if_pos ⟨hk, by simpa using hg⟩]

theorem zeroNow_taken (h : (s.spout i).ctl.state = .idle ∨ (s.spout i).ctl.state = .ready) :
    zeroNow i s = (s.upd i Spout.zeroNow, .ok) := by rcases h with h | h <;> simp only [zeroNow, h]

theorem zeroNow_refused (h : (s.spout i).ctl.state ∉ [SpoutState.idle, .ready]) : zeroNow i s = (s, .refusedState) := by
  cases hst : (s.spout i).ctl.state <;> simp_all [zeroNow]

theorem zeroNow_makeup (h : p.zero.makeupOwed = true) :
    p.zeroNow = ({ p with zero := { p.zero with retryWait := none } } : Spout).startStep .makeup := by
  rw [Spout.zeroNow, if_pos h]

theorem zeroNow_plain (h : p.zero.makeupOwed = false) : p.zeroNow =
    ({ p with zero := { p.zero with retryWait := none, stepsDone := 0, partialSum := 0 } } : Spout).startStep .zeroNow := by
  rw [Spout.zeroNow, if_neg (by simp [h])]

end Sys2Proof.Machine

namespace Sys2Proof.Settled

open Sys2Proof.Machine

/-- Settles O42: the checks that every spout request shares, and each request's own states. -/
theorem spoutRequestsRefused : Obligations.SpoutRequestsRefused := by
  refine ⟨fun c k h ps s hc hk ht hp => ?_, fun s h i => ⟨fun hst ht => ?_, fun hst ht => ?_, fun hst ht => ?_, fun hst ht => ?_,
    fun hst ht => ?_, fun hst ht => ?_, fun hst ht => ?_⟩⟩
  · obtain ⟨act, hact⟩ := handler_spoutRequest hk
    refine ⟨fun hlen => ?_, fun b hb hno => ?_⟩
    · exact answers_of hc ht hp ((hact ps s).trans (onSpout_of_badLength hlen)) build_noSpout
    · subst hb
      exact answers_of hc ht hp ((hact [b] s).trans (onSpout_of_noSpout hno)) build_noSpout
  · exact spout_answers rfl ht rfl (proceed_refused hst)
  · exact spout_answers rfl ht rfl (abort_refused hst)
  · exact spout_answers rfl ht rfl (resume_refused hst)
  · exact spout_answers rfl ht rfl (park_refused hst)
  · exact spout_answers rfl ht rfl (unpark_refused hst)
  · exact spout_answers rfl ht rfl (clear_refused hst)
  · exact spout_answers rfl ht rfl (zeroNow_refused hst)

/-- Settles O43: PROCEED by the spout's state, the make-up owed and the step's origin and kind. -/
theorem proceed : Obligations.Proceed := by
  intro s h i ht
  refine ⟨fun hst hm => ?_, fun hst hm => ?_, fun st hst hs => ⟨fun ho hk => ?_, fun ho hk => ?_, fun ho => ?_⟩⟩
  · exact spout_answers rfl ht rfl (proceed_ready_open hst hm)
  · exact spout_answers rfl ht rfl (proceed_ready_mark hst hm)
  · exact spout_answers rfl ht rfl ((proceed_zeroing hst).trans (proceedZeroing_open hs ho hk))
  · exact spout_answers rfl ht rfl ((proceed_zeroing hst).trans (proceedZeroing_mark hs ho hk))
  · exact spout_answers rfl ht rfl ((proceed_zeroing hst).trans (proceedZeroing_refused hs ho))

/-- Settles O44: ABORT by the spout's state, the head order marked aborted or retired. -/
theorem abort : Obligations.Abort := by
  intro s h i o rest ht hq
  have hmarked := markAborted_of_cons hq
  have hupd : s.upd i Spout.markAborted = s.upd i fun _ => { s.spout i with queue := { o with aborted := true } :: rest } :=
    upd_congr s i hmarked
  refine ⟨fun hst => ?_, fun hst => ?_, fun hst hr => ?_, fun hst hr => ?_, fun hst => ?_⟩
  · refine spout_answers rfl ht rfl ((abort_waiting hst).trans ?_)
    rw [abortWaiting_eq, hmarked, giveUpAir_eq]
    rfl
  · refine spout_answers rfl ht rfl ((abort_loading hst).trans ?_)
    rw [abortLoading, hupd]
  · refine spout_answers rfl ht rfl ((abort_tail hst).trans ?_)
    rw [if_neg hr]
    refine congrArg (·, Status.ok) (upd_congr s i ?_)
    rw [Spout.abortTail, hmarked]
  · refine spout_answers rfl ht rfl ((abort_tail hst).trans ?_)
    rw [if_pos hr]
  · refine spout_answers rfl ht rfl ((abort_ready hst).trans ?_)
    refine congrArg (·, Status.ok) (upd_congr s i ?_)
    have htail : (((s.spout i).retireHead 2).clearProceed).queue = rest := by simp [Spout.retireHead, Spout.clearProceed, hq]
    rw [Spout.abortReady, settle_eq, htail]
    rfl

/-- Settles O46: RESUME by the held reason and the interlocks, which the entry to AWAIT_AIR does not move. -/
theorem resume : Obligations.Resume := by
  intro s h i ht hst
  have hleave : s.upd i Spout.leaveHeld = s.upd i fun p =>
      { p with reportDue := true, ctl := { p.ctl with state := .awaitAir, heldReason := none } } := upd_congr s i rfl
  refine ⟨fun hno => ?_, fun hg hp => ?_, fun hg hp hb => ?_, fun hg hp hb => ?_⟩
  · obtain ⟨hreason, hbay⟩ := not_or.mp hno
    exact spout_answers rfl ht rfl (resume_waits hst (not_not.mp hreason) (by simpa using hbay))
  · refine spout_answers rfl ht rfl ((resume_goes hst hg).trans ?_)
    rw [resumeHeld_eq, if_pos hp, hleave]
  · refine spout_answers rfl ht rfl ((resume_goes hst hg).trans ?_)
    rw [resumeHeld_eq, if_neg (by simp [hp]), if_pos hb, hleave]
  · refine spout_answers rfl ht rfl ((resume_goes hst hg).trans ?_)
    rw [resumeHeld_eq, if_neg (by simp [hp]), if_neg (by simp [hb]), hleave]
    rfl

/-- Settles O47: the wake's MAKEUP step, and each of the others by the spout's state. -/
theorem parkUnparkClearZeroNow : Obligations.ParkUnparkClearZeroNow := by
  refine ⟨fun s h i => ⟨fun hst hno ht => ?_, fun hst hall hw ht => ?_, fun hst ht => ?_, fun st hst hs ho ht => ?_, fun hst ht => ?_,
    fun st hst hs ho ht => ?_⟩, fun s h i => ⟨fun hst hshut ht => ?_, fun hst hk hshut ht => ?_, fun hst => ⟨fun hm ht => ?_,
    fun hm ht => ?_⟩⟩⟩
  · refine spout_answers rfl ht rfl ((unpark_parked hst).trans ?_)
    rw [if_neg (mt configured_iff.mp hno)]
  · refine spout_answers rfl ht rfl ((unpark_parked hst).trans ?_)
    rw [if_pos (configured_iff.mpr hall)]
    exact congrArg (·, Status.ok) (upd_congr s i (unpark_eq hw))
  · exact spout_answers rfl ht rfl (park_idle hst)
  · exact spout_answers rfl ht rfl (park_zeroing_idle hst hs ho)
  · exact spout_answers rfl ht rfl (park_ready hst)
  · exact spout_answers rfl ht rfl (park_zeroing_ready hst hs ho)
  · exact spout_answers rfl ht rfl (clear_taken hst (hshut.imp_right gateReadsShut_iff.mpr))
  · exact spout_answers rfl ht rfl (clear_stuck hst hk (mt gateReadsShut_iff.mp hshut))
  · refine spout_answers rfl ht rfl ((zeroNow_taken hst).trans ?_)
    exact congrArg (·, Status.ok) (upd_congr s i (zeroNow_makeup hm))
  · refine spout_answers rfl ht rfl ((zeroNow_taken hst).trans ?_)
    exact congrArg (·, Status.ok) (upd_congr s i (zeroNow_plain hm))

end Sys2Proof.Settled
end

section
/-! PROOFS. The requests of the device: identity (R177, R178), the parameters (R180, R182), STATUS and COUNTERS (R157, R183). -/

set_option Elab.async false

namespace Sys2Proof.Machine

variable {s : State} {i : SpoutId} {p : Spout} {h : ReqHeader} {scope number : Byte} {v : BitVec 32}

/-! ### Identity -/

theorem identData_eq (s : State) : identData s = [0x0B, 0x17, 0x00, 0x44, 1, 4, byte s.address,
    match s.resetCause with | .powerOn => 0 | .restart => (1 : Byte)] := by
  unfold identData
  cases s.resetCause <;> rfl

theorem identAct_eq (ps : List Byte) (s : State) :
    identAct ps s = Act.only s (if ps = [] then .ok else .badParam) (.bytes (identData s)) := by
  simp only [identAct, List.length_eq_zero_iff]

theorem assignAct_taken {a : Byte} (h : a.toNat ≤ 14) :
    assignAct [a] s = Act.only { s with address := a.toNat } .ok (.bytes [a]) := by
  have hb : byteAt [a] 0 = a.toNat := rfl
  rw [assignAct, hb, if_pos ⟨rfl, h⟩, byte_toNat]

theorem assignAct_refused {ps : List Byte} (h : ps.length ≠ 1 ∨ 15 ≤ byteAt ps 0) :
    assignAct ps s = Act.only s .badParam (.bytes [byte s.address]) := by rw [assignAct, if_neg (by omega)]

/-! ### The parameter table -/

theorem spoutParam_range {n : Nat} {q : SpoutParam} (h : spoutParam n = some q) : 16 ≤ n ∧ n ≤ 33 := by
  unfold spoutParam at h
  split at h
  case h_19 => cases h
  all_goals decide

theorem deviceParam_of_other {n : Nat} (h1 : n ≠ 1) (h2 : n ≠ 2) : deviceParam n = none := by
  unfold deviceParam
  split
  · exact absurd rfl h1
  · exact absurd rfl h2
  · rfl

theorem clampedIf_ne (w v : Nat) : Status.clampedIf (w != v) = if w = v then .ok else .okClamped := by
  by_cases h : w = v <;> simp [Status.clampedIf, h]

theorem grantCount_limit (v : Nat) : DeviceParam.grantCount.limit v = max 1 (min 4 v) := clamp_eq _ _ _ (by decide)

theorem silence_limit (v : Nat) : DeviceParam.silence.limit v = min 7 v :=
  (clamp_eq _ _ _ (by decide)).trans (Nat.zero_max _)

/-! ### SET_PARAM and GET_PARAM -/

theorem paramData_build (scope number : Byte) (v : Nat) :
    (paramData scope.toNat number.toNat v).build = fun _ => [scope, number] ++ be32 v := by
  simp only [paramData, byte_toNat]
  rfl

theorem paramData_spout_build (i : SpoutId) (number : Byte) (v : Nat) :
    (paramData i.val number.toNat v).build = fun _ => [byte i.val, number] ++ be32 v := by
  simp only [paramData, byte_toNat]
  rfl

theorem setParamAct_badLength {ps : List Byte} (h : ps.length ≠ 6) : setParamAct ps s = Act.only s .badParam (paramData 0 0 0) := by
  rw [setParamAct, if_pos h]

theorem length_setParam : ([scope, number] ++ be32 v.toNat).length = 6 := rfl

theorem length_setParam_le : ([scope, number] ++ be32 v.toNat).length ≤ 32 := length_setParam.trans_le (by decide)

theorem setParamAct_device :
    setParamAct ([4, number] ++ be32 v.toNat) s = setDeviceAct number.toNat v.toNat s := by
  have hv : word32At ([4, number] ++ be32 v.toNat) 2 = v.toNat := word32At_be32 v 4 number
  have hs : byteAt ([4, number] ++ be32 v.toNat) 0 = 4 := rfl
  rw [setParamAct, if_neg (not_not.mpr length_setParam), if_pos hs, hv]
  rfl

theorem setParamAct_noSpout (hscope : 4 < scope.toNat) :
    setParamAct ([scope, number] ++ be32 v.toNat) s = Act.only s .badSpout (paramData 0 number.toNat 0) := by
  have hs : byteAt ([scope, number] ++ be32 v.toNat) 0 = scope.toNat := rfl
  rw [setParamAct, if_neg (not_not.mpr length_setParam), hs, if_neg (by omega), spoutOfField_none (by omega)]
  rfl

theorem setParamAct_spout :
    setParamAct ([byte i.val, number] ++ be32 v.toNat) s = setSpoutAct i number.toNat v.toNat s := by
  have hi := i.isLt
  have hs : byteAt ([byte i.val, number] ++ be32 v.toNat) 0 = i.val := byteAt_spout i _
  have hv : word32At ([byte i.val, number] ++ be32 v.toNat) 2 = v.toNat := word32At_be32 v _ number
  rw [setParamAct, if_neg (not_not.mpr length_setParam), hs, if_neg (by omega), spoutOfField_val, hv]
  rfl

theorem setDeviceAct_none {n w : Nat} (h : deviceParam n = none) :
    setDeviceAct n w s = Act.only s .badParam (paramData 4 n 0) := by rw [setDeviceAct, h]

theorem setSpoutAct_none {n w : Nat} (h : spoutParam n = none) :
    setSpoutAct i n w s = Act.only s .badParam (paramData i.val n 0) := by rw [setSpoutAct, h]

theorem setSpoutAct_fixed {n w : Nat} {q : SpoutParam} (h : spoutParam n = some q)
    (hf : q.fixedInCompartment = true ∧ (s.spout i).ctl.state.compartmentOpen = true) :
    setSpoutAct i n w s = Act.only s .refusedState (paramData i.val n (q.value (s.spout i))) := by
  simp only [setSpoutAct, h, if_pos hf]

theorem setSpoutAct_stored {n w : Nat} {q : SpoutParam} (h : spoutParam n = some q)
    (hf : ¬ (q.fixedInCompartment = true ∧ (s.spout i).ctl.state.compartmentOpen = true)) :
    setSpoutAct i n w s = Act.only (s.upd i (Spout.setParam q (q.limit w))) (if q.limit w = w then .ok else .okClamped)
      (paramData i.val n (q.limit w)) := by
  simp only [setSpoutAct, h, if_neg hf, clampedIf_ne]

theorem fixedInCompartment_iff {q : SpoutParam} : q.fixedInCompartment = true ↔ q = .span ∨ q = .lowCut := by
  cases q <;> simp [SpoutParam.fixedInCompartment]

theorem setDeviceParam_raise {w : Nat} (h : s.grantCount < w) :
    setDeviceParam .grantCount w s = grantDecision { s with grantCount := w } := by simp only [setDeviceParam, if_pos h]

theorem setDeviceParam_lower {w : Nat} (h : w ≤ s.grantCount) :
    setDeviceParam .grantCount w s = { s with grantCount := w } := by
  simp only [setDeviceParam, if_neg (Nat.not_lt.mpr h)]

/-- R180: a device parameter's SET_PARAM answers with the value brought into range. -/
theorem setDevice_answers {q : DeviceParam} {w : Nat} {u : State} (ht : s.takes h 0x04) (hq : deviceParam number.toNat = some q)
    (hw : q.limit v.toNat = w) (hu : setDeviceParam q w s = u) :
    s.answers (.setParam h ([4, number] ++ be32 v.toNat)) h .setParam u (if w = v.toNat then .ok else .okClamped)
      fun _ => [4, number] ++ be32 w := by
  refine answers_of rfl ht length_setParam_le (d := paramData (4 : Byte).toNat number.toNat w) ?_ (paramData_build _ _ _)
  refine setParamAct_device.trans ?_
  simp only [setDeviceAct, hq, hw, hu, clampedIf_ne]
  rfl

theorem getParamAct_badLength {ps : List Byte} (h : ps.length ≠ 2) : getParamAct ps s = Act.only s .badParam (paramData 0 0 0) := by
  rw [getParamAct, if_pos h]

theorem getParamAct_noSpout (hscope : 4 < scope.toNat) :
    getParamAct [scope, number] s = Act.only s .badSpout (paramData 0 number.toNat 0) := by
  have hs : byteAt [scope, number] 0 = scope.toNat := rfl
  rw [getParamAct, if_neg (by simp), hs, if_neg (by omega), spoutOfField_none (by omega)]
  rfl

theorem getParamAct_device_none (hq : deviceParam number.toNat = none) :
    getParamAct [4, number] s = Act.only s .badParam (paramData (4 : Byte).toNat number.toNat 0) := by
  have hn : byteAt [4, number] 1 = number.toNat := rfl
  have hs : byteAt [4, number] 0 = 4 := rfl
  rw [getParamAct, if_neg (by simp), if_pos hs, hn, hq]
  rfl

theorem getParamAct_device {q : DeviceParam} (hq : deviceParam number.toNat = some q) :
    getParamAct [4, number] s = Act.only s .ok (paramData (4 : Byte).toNat number.toNat (q.value s)) := by
  have hn : byteAt [4, number] 1 = number.toNat := rfl
  have hs : byteAt [4, number] 0 = 4 := rfl
  rw [getParamAct, if_neg (by simp), if_pos hs, hn, hq]
  rfl

theorem getParamAct_spout_none (hq : spoutParam number.toNat = none) :
    getParamAct [byte i.val, number] s = Act.only s .badParam (paramData i.val number.toNat 0) := by
  have hi := i.isLt
  have hn : byteAt [byte i.val, number] 1 = number.toNat := rfl
  simp only [getParamAct, byteAt_spout, hn, if_neg (show ¬ i.val = 4 by omega), spoutOfField_val, hq]
  rfl

theorem getParamAct_spout {q : SpoutParam} (hq : spoutParam number.toNat = some q) :
    getParamAct [byte i.val, number] s = Act.only s .ok (paramData i.val number.toNat (q.value (s.spout i))) := by
  have hi := i.isLt
  have hn : byteAt [byte i.val, number] 1 = number.toNat := rfl
  simp only [getParamAct, byteAt_spout, hn, if_neg (show ¬ i.val = 4 by omega), spoutOfField_val, hq]
  rfl

/-! ### The effect of setting a spout parameter -/

theorem setMinOpening_eq (w : Nat) (p : Spout) : p.setMinOpening w =
    if (p.ctl.state = .coarse ∨ p.ctl.state = .fine) ∧ p.ctl.sentDemand < w then
      { p with par := { p.par with minOpening := w }, ctl := { p.ctl with sentDemand := w }, gatePending := true }
    else { p with par := { p.par with minOpening := w } } := by
  simp only [Spout.setMinOpening, gateOpen_iff]
  rfl

/-- R49: what a change of the zero mode leaves of the tracker. -/
theorem changeCadence_eq (c : Cadence) (isOpen : Bool) (z : ZeroTracker) : z.changeCadence c isOpen =
    if 1 ≤ z.stepsDone then
      if isOpen then
        { z with cadence := c, dueCount := 0, stepsDone := 0, partialSum := 0, makeupDeferred := true }
      else { z with cadence := c, dueCount := 0, stepsDone := 0, partialSum := 0, makeupOwed := true }
    else { z with cadence := c, dueCount := 0 } := by
  cases isOpen <;> simp [ZeroTracker.changeCadence]

theorem changeCadence_step (c : Cadence) (isOpen : Bool) (z : ZeroTracker) : (z.changeCadence c isOpen).step = z.step := by
  unfold ZeroTracker.changeCadence
  split <;> rfl

theorem changeCadence_cadence (c : Cadence) (isOpen : Bool) (z : ZeroTracker) : (z.changeCadence c isOpen).cadence = c := by
  unfold ZeroTracker.changeCadence
  split <;> rfl

theorem setCadence_same (p : Spout) : p.setCadence p.zero.cadence = p := if_pos rfl

theorem setCadence_of_ne {c : Cadence} (h : c ≠ p.zero.cadence) : p.setCadence c =
    (({ p with zero := p.zero.changeCadence c p.ctl.state.compartmentOpen } : Spout).dropNormalStep).examineZeroing := if_neg h

theorem dropNormalStep_of_other (h : ∀ st, p.zero.step = some st → st.kind ≠ .normal) : p.dropNormalStep = p := by
  unfold Spout.dropNormalStep
  split
  · next st hst => rw [if_neg (h st hst)]
  · rfl

theorem dropNormalStep_of_normal {st : ZeroStep} (h : p.zero.step = some st) (hk : st.kind = .normal) :
    p.dropNormalStep = p.returned st.origin := by
  simp only [Spout.dropNormalStep, h, if_pos hk, endStep_of_some h]

theorem dropNormalStep_cadence (p : Spout) : p.dropNormalStep.zero.cadence = p.zero.cadence := by
  by_cases h : ∀ st, p.zero.step = some st → st.kind ≠ .normal
  · rw [dropNormalStep_of_other h]
  · push Not at h
    obtain ⟨st, hst, hk⟩ := h
    rw [dropNormalStep_of_normal hst hk]
    rfl

theorem examineZeroing_cadence (p : Spout) : p.examineZeroing.zero.cadence = p.zero.cadence := by
  by_cases h : p.zeroingDue = true
  · rw [examineZeroing_of_due h]
    cases hc : p.zero.cadence <;> simp [Spout.startStep, hc]
  · rw [examineZeroing_of_not_due h]

theorem setCadence_cadence (c : Cadence) (p : Spout) : (p.setCadence c).zero.cadence = c := by
  by_cases h : c = p.zero.cadence
  · rw [h, setCadence_same]
  · rw [setCadence_of_ne h, examineZeroing_cadence, dropNormalStep_cadence]
    exact changeCadence_cadence c _ _

theorem cadenceOfCode_code (c : Cadence) : cadenceOfCode c.code = c := by cases c <;> rfl

theorem code_cadenceOfCode {w : Nat} (h : w ≤ 2) : (cadenceOfCode w).code = w := by
  match w, h with
  | 0, _ | 1, _ | 2, _ => rfl

/-- R180: only the zero mode's own act of setting changes it. -/
theorem zeroMode_setParam {q : SpoutParam} (hq : q ≠ .zeroMode) (w : Nat) (p : Spout) :
    SpoutParam.zeroMode.value (p.setParam q w) = SpoutParam.zeroMode.value p := by
  cases q
  case zeroMode => exact absurd rfl hq
  case minOpening =>
    show (p.setMinOpening w).zero.cadence.code = _
    rw [setMinOpening_eq]
    split <;> rfl
  all_goals rfl

theorem value_setParam_self (q : SpoutParam) (v : Nat) (p : Spout) : q.value (p.setParam q (q.limit v)) = q.limit v := by
  by_cases hq : q = .zeroMode
  · subst hq
    have hle : SpoutParam.zeroMode.limit v ≤ 2 := (clamp_mem (by omega) v).2
    show (p.setCadence _).zero.cadence.code = _
    rw [setCadence_cadence, code_cadenceOfCode hle]
  · rw [Spout.value_setParam q q _ hq, if_pos rfl]

theorem value_setParam_other {q r : SpoutParam} (hr : r ≠ q) (w : Nat) (p : Spout) : r.value (p.setParam q w) = r.value p := by
  by_cases hz : r = .zeroMode
  · subst hz
    exact zeroMode_setParam hr.symm w p
  · rw [Spout.value_setParam q r _ hz, if_neg hr]

/-- R180: the parameters whose setting has no effect beside the value. -/
theorem setParam_par {q : SpoutParam} (w : Nat) (p : Spout) (hm : q ≠ .minOpening) (hf : q ≠ .floodLimit) (ht : q ≠ .tau)
    (hz : q ≠ .zeroMode) (hi : q ≠ .zeroInterval) (hr : q ≠ .reportInterval) :
    p.setParam q w = { p with par := (p.setParam q w).par } := by
  cases q
  case minOpening => exact absurd rfl hm
  case floodLimit => exact absurd rfl hf
  case tau => exact absurd rfl ht
  case zeroMode => exact absurd rfl hz
  case zeroInterval => exact absurd rfl hi
  case reportInterval => exact absurd rfl hr
  all_goals rfl

/-! ### STATUS and COUNTERS -/

theorem statusAct_spout : statusAct [byte i.val] s = Act.only s .ok (.record (some i)) := by
  simp only [statusAct, byteAt_spout, spoutOfField_val]
  rfl

theorem statusAct_noSpout {b : Byte} (h : 3 < b.toNat) : statusAct [b] s = Act.only s .badSpout (.record none) := by
  have hb : byteAt [b] 0 = b.toNat := rfl
  rw [statusAct, if_neg (by simp), hb, spoutOfField_none h]

theorem statusAct_badLength {ps : List Byte} (h : ps.length ≠ 1) : statusAct ps s = Act.only s .badParam (.record none) := by
  rw [statusAct, if_pos h]

theorem statusFlags_eq (s : State) (p : Spout) : statusFlags s p =
    (if p.zero.makeupOwed then 1 else 0) + (if p.curve.exchangePending then 2 else 0) + (if s.silent then 4 else 0) := by
  simp [statusFlags, flagBit]

theorem perform_unknown {code : Byte} (h : requestKind code = none) (ps : List Byte) : perform code ps s = unknownAct s := by
  rw [perform, h]

theorem countersAct_badLength {ps : List Byte} (h : ps.length ≠ 2) :
    countersAct ps s = Act.only s .badParam (.bytes (portBytes s)) := if_pos (.inl h)

theorem countersAct_refused {first count : Byte}
    (h : 31 < first.toNat ∨ count.toNat = 0 ∨ 6 < count.toNat ∨ 32 < first.toNat + count.toNat) :
    countersAct [first, count] s = Act.only s .badParam (.bytes (portBytes s)) := if_pos (.inr h)

theorem countersAct_taken {first count : Byte}
    (h : ¬ (31 < first.toNat ∨ count.toNat = 0 ∨ 6 < count.toNat ∨ 32 < first.toNat + count.toNat)) :
    countersAct [first, count] s = Act.only (clearCounters (lanesFrom first.toNat count.toNat) s) .ok
      (.bytes (portBytes s ++ (lanesFrom first.toNat count.toNat).flatMap fun l => laneBytes (s.lane l))) :=
  if_neg fun hc => hc.elim (fun h2 => h2 rfl) h

theorem mem_lanesFrom {f n : Nat} {l : LaneId} : l ∈ lanesFrom f n ↔ f ≤ l.val ∧ l.val < f + n := by
  simp [lanesFrom, List.mem_finRange]

/-- R157: the lanes that a COUNTERS names, one after another. -/
theorem lanesFrom_val {f n : Nat} (h : f + n ≤ 32) : (lanesFrom f n).map Fin.val = (List.range n).map (f + ·) := by
  have hsorted : ((lanesFrom f n).map Fin.val).Pairwise (· < ·) :=
    List.pairwise_map.mpr ((List.pairwise_lt_finRange 32).filter _)
  have hrange : ((List.range n).map (f + ·)).Pairwise (· < ·) :=
    List.pairwise_map.mpr (List.pairwise_lt_range.imp fun hab => Nat.add_lt_add_left hab f)
  refine hsorted.eq_of_mem_iff hrange fun k => ?_
  simp only [List.mem_map, mem_lanesFrom, List.mem_range]
  constructor
  · rintro ⟨l, hl, rfl⟩
    exact ⟨l.val - f, by omega, by omega⟩
  · rintro ⟨k, hk, rfl⟩
    exact ⟨⟨f + k, by omega⟩, ⟨by dsimp only; omega, by dsimp only; omega⟩, rfl⟩

/-- A list of bytes for each lane named is the same list for each number. -/
theorem flatMap_lanesFrom {f n : Nat} (h : f + n ≤ 32) {g : LaneId → List Byte} {g' : Nat → List Byte}
    (hg : ∀ l : LaneId, g l = g' l.val) : (lanesFrom f n).flatMap g = (List.range n).flatMap fun k => g' (f + k) := by
  have hval : (lanesFrom f n).flatMap g = ((lanesFrom f n).map Fin.val).flatMap g' := by
    rw [List.flatMap_map]
    exact congrArg (List.flatMap · _) (funext hg)
  rw [hval, lanesFrom_val h, List.flatMap_map]

theorem laneBytes_eq (e : Option Lane) : laneBytes e = match e with
    | none => [0, 0, 0, 0]
    | some e =>
      [byte (128 + (if e.stale then 64 else 0) + e.spout.val * 16 + e.role.code), e.crc.byte, e.gap.byte, e.dup.byte] := by
  cases e <;> rfl

/-- R157: the bytes of the lane of a number, and none for a number that names no lane. -/
def State.laneOfNumber (s : State) (k : Nat) : List Byte := if hk : k < 32 then laneBytes (s.lane ⟨k, hk⟩) else []

theorem laneOfNumber_val (s : State) (l : LaneId) : s.laneOfNumber l.val = laneBytes (s.lane l) := dif_pos l.isLt

end Sys2Proof.Machine

namespace Sys2Proof.Settled

open Sys2Proof.Machine

/-- Settles O48: IDENT in every state, and ASSIGN only with the address 15. -/
theorem identAndAssign : Obligations.IdentAndAssign := by
  intro s h ps hp
  refine ⟨fun ht => ⟨fun he => ?_, fun he => ?_⟩, fun ht => ?_⟩
  · exact answers_of rfl ht hp ((identAct_eq ps s).trans (by rw [if_pos he])) (by rw [identData_eq]; rfl)
  · exact answers_of rfl ht hp ((identAct_eq ps s).trans (by rw [if_neg he])) (by rw [identData_eq]; rfl)
  · have haddress : s.address = 15 := by
      by_contra hne
      exact ((isAddressed_of_assigned hne).mp ht.1).1 rfl
    refine ⟨haddress, fun a ha hle => ?_, fun hbad => ?_⟩
    · subst ha
      exact answers_of rfl ht hp (assignAct_taken hle) rfl
    · exact answers_of rfl ht hp (assignAct_refused hbad) (by rw [haddress]; rfl)

/-- Settles O50: the table row by row, and SET_PARAM check by check. -/
theorem setDeviceParam : Obligations.SetDeviceParam := by
  refine ⟨⟨fun row hrow => ?_, rfl, rfl, fun v hv => ?_, fun n hn => ?_, rfl, silence_limit, rfl, grantCount_limit,
    fun n => deviceParam_of_other⟩, fun s h scope number v ps ht => ⟨fun hp hl => ?_, fun hs => ?_, fun i hs hn => ?_,
    fun hs hn => ?_, fun hs hn => ?_, fun hs hn => ⟨fun hw => ?_, fun hw => ?_⟩⟩⟩
  · fin_cases hrow <;> exact ⟨rfl, fun v => clamp_eq _ _ _ (by decide)⟩
  · show clampFloodLimit v = _
    rw [clampFloodLimit, if_neg (by omega), clamp_eq _ _ _ (by omega)]
  · refine Option.eq_none_iff_forall_ne_some.mpr fun q hq => ?_
    have := spoutParam_range hq
    omega
  · exact answers_of rfl ht hp (setParamAct_badLength hl) rfl
  · exact answers_of rfl ht length_setParam_le (setParamAct_noSpout hs) (paramData_build 0 number 0)
  · subst hs
    exact answers_of rfl ht length_setParam_le (setParamAct_spout.trans (setSpoutAct_none hn))
      (paramData_spout_build i number 0)
  · subst hs
    exact answers_of rfl ht length_setParam_le (setParamAct_device.trans (setDeviceAct_none hn))
      (paramData_build 4 number 0)
  · subst hs hn
    exact setDevice_answers ht rfl (silence_limit _) rfl
  · subst hs hn
    exact setDevice_answers ht rfl (grantCount_limit _) (setDeviceParam_raise hw)
  · subst hs hn
    exact setDevice_answers ht rfl (grantCount_limit _) (setDeviceParam_lower hw)

/-- Settles O51: the value that is stored, and the effect of each parameter. -/
theorem setSpoutParam : Obligations.SetSpoutParam := by
  refine ⟨fun s h i number q v ht hq => ⟨fun hf => ?_, fun hf => ?_, value_setParam_self q _ _,
    fun r hr => value_setParam_other hr _ _, setParam_par _ _, fun e => ?_, fun e => ?_, fun e => ?_, fun e => ?_, fun e => ?_⟩,
    fun p c => ⟨congrArg p.setCadence (cadenceOfCode_code c), fun hc => ?_, fun hc hk => ?_, fun st hc hst hk => ?_⟩⟩
  · exact answers_of rfl ht length_setParam_le
      (setParamAct_spout.trans (setSpoutAct_fixed hq ⟨fixedInCompartment_iff.mpr hf.1, hf.2⟩)) (paramData_spout_build i number _)
  · exact answers_of rfl ht length_setParam_le
      (setParamAct_spout.trans (setSpoutAct_stored hq fun hx => hf ⟨fixedInCompartment_iff.mp hx.1, hx.2⟩))
      (paramData_spout_build i number _)
  · rw [e]; rfl
  · rw [e]; rfl
  · rw [e]; rfl
  · rw [e]; rfl
  · rw [e]; exact setMinOpening_eq _ _
  · rw [hc, setCadence_same]
  · rw [setCadence_of_ne hc, changeCadence_eq, dropNormalStep_of_other (by exact fun st hst => hk st (by
      rw [← changeCadence_eq, changeCadence_step] at hst; exact hst))]
  · rw [setCadence_of_ne hc, dropNormalStep_of_normal ((changeCadence_step _ _ _).trans hst) hk, changeCadence_eq]
    cases st.origin <;> rfl

/-- Settles O52: GET_PARAM check by check. -/
theorem getParam : Obligations.GetParam := by
  intro s h scope number ps ht
  refine ⟨fun hp hl => ?_, fun hs => ?_, fun hs => ⟨fun hn => ?_, fun hn => ?_, fun hn => ?_⟩,
    fun i hs => ⟨fun hn => ?_, fun q hq => ?_, ?_⟩⟩
  · exact answers_of rfl ht hp (getParamAct_badLength hl) rfl
  · exact answers_of rfl ht (by simp) (getParamAct_noSpout hs) (paramData_build 0 number 0)
  · subst hs
    exact answers_of rfl ht (by simp) (getParamAct_device_none hn) (paramData_build 4 number 0)
  · subst hs hn
    exact answers_of rfl ht (by simp) (getParamAct_device (q := .silence) rfl) (paramData_build 4 1 _)
  · subst hs hn
    exact answers_of rfl ht (by simp) (getParamAct_device (q := .grantCount) rfl) (paramData_build 4 2 _)
  · subst hs
    exact answers_of rfl ht (by simp) (getParamAct_spout_none hn) (paramData_spout_build i number 0)
  · subst hs
    exact answers_of rfl ht (by simp) (getParamAct_spout hq) (paramData_spout_build i number _)
  · show (s.spout i).zero.cadence.code = _
    cases (s.spout i).zero.cadence <;> rfl

/-- Settles O53: the STATUS record field by field, and the lanes of COUNTERS one after another. -/
theorem statusCountersUnknown : Obligations.StatusCountersUnknown := by
  refine ⟨⟨fun s h ps ht hp => ⟨fun i hi => ?_, fun b hb hlt => ?_, fun hl => ?_⟩, fun s h code ps ht hk hp => ?_⟩,
    fun s h first count ps ht => ⟨fun hp hl => ?_, fun hbad => ?_, fun h1 h6 hfit => ?_⟩⟩
  · subst hi
    refine answers_of rfl ht hp statusAct_spout (funext fun t => ?_)
    simp only [ReplyData.build, statusRecord, heldCode_eq, statusFlags_eq]
    cases (t.spout i).ctl.heldReason with
    | none => cases (t.spout i).place <;> rfl
    | some r => cases r <;> cases (t.spout i).place <;> rfl
  · subst hb
    exact answers_of rfl ht hp (statusAct_noSpout hlt) rfl
  · exact answers_of rfl ht hp (statusAct_badLength hl) rfl
  · show finish (requestCourse h code ps (perform code ps) s) = _
    rw [requestCourse_taken _ ht hp, acceptRequest_only ((perform_unknown hk ps).trans rfl)]
    rfl
  · exact answers_of rfl ht hp (countersAct_badLength hl) rfl
  · exact answers_of rfl ht (by simp) (countersAct_refused hbad) rfl
  · refine ⟨_, answers_of rfl ht (by simp) (countersAct_taken (by omega)) (funext fun _ => ?_), fun l => ?_, clearCounters_eq _ _⟩
    · refine congrArg (portBytes s ++ ·) ((flatMap_lanesFrom hfit fun l => (laneOfNumber_val s l).symm).trans ?_)
      simp only [State.laneOfNumber, laneBytes_eq] <;> rfl
    · rw [clearCounters_lane, if_congr mem_lanesFrom rfl rfl]
      rfl

end Sys2Proof.Settled
end

section
/-! PROOFS. The requests of the curve store: the window (R25, R29), writes through it (R27, R28) and ACTIVATE (R24, R30 to R35). -/

set_option Elab.async false

namespace Sys2Proof.Machine

variable {s : State} {i : SpoutId} {p : Spout} {ps : List Byte} {b : Bank} {cursor : Nat}

/-! ### OPEN_WINDOW -/

theorem bankLocked_iff {c : CurveStore} : c.bankLocked b = true ↔ b = c.selected ∨ c.status b = .pending := by
  simp [CurveStore.bankLocked]

theorem bankOfCode_none {n : Nat} (h : 1 < n) : bankOfCode n = none := by
  match n, h with
  | _ + 2, _ => rfl

theorem bankOfCode_byte (b : Bank) : bankOfCode (byte b.code).toNat = some b := by cases b <;> rfl

theorem windowData_some (i : SpoutId) (b : Bank) (s : State) : windowData i (some b) s =
    [byte ((s.spout i).curve.status b).code, byte (s.spout i).curve.selected.code, if (s.spout i).curve.valid then 1 else 0,
      if b = (s.spout i).curve.selected ∨ (s.spout i).curve.status b = .pending then 0 else 1] := by
  have hbit : ∀ x : Bool, byte (flagBit 0 x) = if x then 1 else 0 := by decide
  by_cases hl : b = (s.spout i).curve.selected ∨ (s.spout i).curve.status b = .pending <;>
    simp [windowData, hbit, bankLocked_iff, hl]

theorem windowData_none (i : SpoutId) (s : State) : windowData i none s =
    [0, byte (s.spout i).curve.selected.code, if (s.spout i).curve.valid then 1 else 0, 0] := by
  cases h : (s.spout i).curve.valid <;> simp [windowData, h] <;> rfl

theorem openWindowAct_badLength (h : ps.length ≠ 4) : openWindowAct ps s = Act.only s .badParam (.bytes [0, 0, 0, 0]) := by
  rw [openWindowAct, if_pos h]

section
variable {spout bank first last : Byte}

theorem openWindowAct_noSpout (h : 3 < spout.toNat) :
    openWindowAct [spout, bank, first, last] s = Act.only s .badSpout (.bytes [0, 0, 0, 0]) := by
  have hb : byteAt [spout, bank, first, last] 0 = spout.toNat := rfl
  rw [openWindowAct, if_neg (by simp), hb, spoutOfField_none h]

theorem openWindowAct_noBank (h : 1 < bank.toNat) :
    openWindowAct [byte i.val, bank, first, last] s = Act.only s .badParam (.bytes (windowData i none s)) := by
  have hb : byteAt [byte i.val, bank, first, last] 1 = bank.toNat := rfl
  simp only [openWindowAct, byteAt_spout, spoutOfField_val, hb, bankOfCode_none h]
  rfl

theorem openWindowAct_bank : openWindowAct [byte i.val, byte b.code, first, last] s =
    if 16 < last.toNat ∨ last.toNat < first.toNat then Act.only s .badParam (.bytes (windowData i (some b) s))
    else Act.only { s with window := ⟨true, i, b, first.toNat, last.toNat, first.toNat⟩ } .ok
      (.bytes (windowData i (some b) s)) := by
  have hb : byteAt [byte i.val, byte b.code, first, last] 1 = (byte b.code).toNat := rfl
  simp only [openWindowAct, byteAt_spout, spoutOfField_val, hb, bankOfCode_byte]
  rfl

end

/-! ### Reading -/

theorem readAct_badLength (h : ps ≠ []) : readAct cursor ps s = Act.only s .badParam (.bytes [0]) := by
  rw [readAct, if_pos (mt List.length_eq_zero_iff.mp h)]

theorem readAct_closed (h : s.window.isOpen = false) : readAct cursor [] s = Act.only s .windowClosed (.bytes [0]) := by
  rw [readAct, if_neg (by simp), if_pos (by simp [h])]

theorem readAct_open (h : s.window.isOpen = true) : readAct cursor [] s =
    Act.only { s with window := { s.window with cursor := cursor + min 6 (s.window.last + 1 - cursor) } } .ok
      (.bytes (byte (min 6 (s.window.last + 1 - cursor)) :: (List.range (min 6 (s.window.last + 1 - cursor))).flatMap fun k =>
        be16 (((s.spout s.window.spout).curve.points s.window.bank).getD (cursor + k) 0))) := by
  simp only [readAct, readPoints, h, List.length_map, List.length_range, List.flatMap_map]
  rfl

/-- R29: the two read requests differ in where they read from. -/
theorem read_answers {h : ReqHeader} {u : State} {st : Status} {bs : List Byte} (hp : ps.length ≤ 32)
    (ha : readAct cursor ps s = Act.only u st (.bytes bs)) :
    (cursor = s.window.first → s.takes h 0x13 → s.answers (.readPoints h ps) h .readPoints u st fun _ => bs) ∧
      (cursor = s.window.cursor → s.takes h 0x14 → s.answers (.readMore h ps) h .readMore u st fun _ => bs) := by
  constructor <;> rintro rfl ht <;> exact answers_of rfl ht hp ha rfl

/-! ### Writing -/

/-- R27: the values before `n` have been stored from `start` on into the points `v`. -/
structure Writing.Took (value : Nat → Nat) (v : Vector Nat 17) (start n : Nat) (w : Writing) : Prop where
  cursor : w.cursor = start + n
  stored : w.stored = n
  clamped : w.clamped = true ↔ ∃ k < n, 20000 < value k
  points : ∀ k, w.points.getD k 0 = if start ≤ k ∧ k < start + n then min 20000 (value (k - start)) else v.getD k 0

variable {value : Nat → Nat} {v : Vector Nat 17} {start n last : Nat} {w : Writing}

theorem Writing.took_start (v : Vector Nat 17) (start : Nat) : Writing.Took value v start 0 ⟨v, start, 0, false⟩ :=
  ⟨rfl, rfl, by simp, fun k => (if_neg (by omega)).symm⟩

theorem Writing.Took.take (h : w.Took value v start n) (hroom : start + n ≤ last) (hlast : last ≤ 16) :
    (Writing.take last w (value n)).Took value v start (n + 1) := by
  rw [Writing.take_stores (h.cursor.trans_le hroom)]
  refine ⟨by rw [h.cursor, Nat.add_assoc], by rw [h.stored], ?_, fun k => ?_⟩
  · rw [Bool.or_eq_true, h.clamped, decide_eq_true_iff, Nat.exists_lt_succ_right]
  · rw [getD_setIfInBounds, h.cursor, h.points]
    by_cases hk : k = start + n
    · rw [if_pos (by omega), if_pos (by omega), hk, Nat.add_sub_cancel_left]
    · rw [if_neg (by omega), if_congr (show start ≤ k ∧ k < start + n ↔ start ≤ k ∧ k < start + (n + 1) by omega) rfl rfl]

/-- R27: of `m` values, those that find a point before the window's end are stored. -/
theorem Writing.took_fold (hlast : last ≤ 16) (m : Nat) :
    (((List.range m).map value).foldl (Writing.take last) ⟨v, start, 0, false⟩).Took value v start (min m (last + 1 - start)) := by
  induction m with
  | zero => simpa using Writing.took_start v start
  | succ m ih =>
    rw [List.range_succ, List.map_append, List.foldl_append]
    by_cases hroom : start + m ≤ last
    · rw [Nat.min_eq_left (by omega)] at ih ⊢
      exact ih.take hroom hlast
    · rw [show min (m + 1) (last + 1 - start) = min m (last + 1 - start) by omega]
      simp only [List.map_cons, List.map_nil, List.foldl_cons, List.foldl_nil]
      rwa [Writing.take_skips (by rw [ih.cursor]; omega)]

theorem writeAct_closed (h : s.window.isOpen = false) : writeAct cursor ps s = Act.only s .windowClosed (.bytes [0]) := by
  rw [writeAct, if_pos (by simp [h])]

theorem writeAct_badLength (h : s.window.isOpen = true) (hc : ¬ (ps.length % 2 = 0 ∧ 2 ≤ ps.length ∧ ps.length ≤ 12)) :
    writeAct cursor ps s = Act.only s .badParam (.bytes [0]) := by
  rw [writeAct, if_neg (by simp [h]), if_pos (by omega)]

theorem writeAct_locked (h : s.window.isOpen = true) (hc : ps.length % 2 = 0 ∧ 2 ≤ ps.length ∧ ps.length ≤ 12)
    (hl : (s.spout s.window.spout).curve.bankLocked s.window.bank = true) :
    writeAct cursor ps s = Act.only s .bankActive (.bytes [0]) := by
  rw [writeAct, if_neg (by simp [h]), if_neg (by omega), if_pos hl]

theorem writeAct_taken (h : s.window.isOpen = true) (hc : ps.length % 2 = 0 ∧ 2 ≤ ps.length ∧ ps.length ≤ 12)
    (hl : ¬ (s.spout s.window.spout).curve.bankLocked s.window.bank = true) : writeAct cursor ps s =
      Act.only (afterWrite (writeFrom cursor ps s) s) (.clampedIf (writeFrom cursor ps s).clamped)
        (.bytes [byte (writeFrom cursor ps s).stored]) := by
  rw [writeAct, if_neg (by simp [h]), if_neg (by omega), if_neg hl]

/-- R27: the two write requests differ in where they write from. -/
theorem write_answers {h : ReqHeader} {u : State} {st : Status} {n : Nat} (hp : ps.length ≤ 32)
    (ha : writeAct cursor ps s = Act.only u st (.bytes [byte n])) :
    (cursor = s.window.first → s.takes h 0x11 → s.answers (.writePoints h ps) h .writePoints u st fun _ => [byte n]) ∧
      (cursor = s.window.cursor → s.takes h 0x12 → s.answers (.writeMore h ps) h .writeMore u st fun _ => [byte n]) := by
  constructor <;> rintro rfl ht <;> exact answers_of rfl ht hp ha rfl

theorem points_written (c : CurveStore) (b : Bank) (v : Vector Nat 17) : (c.written b v).points b = v := by cases b <;> rfl

theorem afterWrite_window (w : Writing) (s : State) : (afterWrite w s).window = { s.window with cursor := w.cursor } := by
  unfold afterWrite
  split <;> rfl

theorem afterWrite_of_none {w : Writing} (h : w.stored = 0) :
    afterWrite w s = { s with window := { s.window with cursor := w.cursor } } := if_pos h

theorem afterWrite_of_some {w : Writing} (h : w.stored ≠ 0) : afterWrite w s =
    { s.upd s.window.spout fun p => { p with curve := p.curve.written s.window.bank w.points } with
      window := { s.window with cursor := w.cursor } } := if_neg h

theorem afterWrite_points {w : Writing} (h : w.stored ≠ 0) :
    ((afterWrite w s).spout s.window.spout).curve.points s.window.bank = w.points := by
  have hspout : (afterWrite w s).spout s.window.spout =
      (s.upd s.window.spout fun p => { p with curve := p.curve.written s.window.bank w.points }).spout s.window.spout := by
    rw [afterWrite_of_some h]
    rfl
  rw [hspout, spout_upd, if_pos rfl]
  exact points_written _ _ _

/-! ### ACTIVATE -/

theorem failingPoint_of_fall {k : Nat} (h1 : 1 ≤ k) (h16 : k ≤ 16) (hf : v.getD k 0 < v.getD (k - 1) 0)
    (hr : ∀ j, 1 ≤ j → j < k → v.getD (j - 1) 0 ≤ v.getD j 0) : failingPoint v = some k := by
  rw [failingPoint, fallsFrom_some v h1 (by omega) hf hr]

theorem failingPoint_of_flat (hr : ∀ k, 1 ≤ k → k ≤ 16 → v.getD (k - 1) 0 ≤ v.getD k 0) (h0 : v.getD 16 0 = 0) :
    failingPoint v = some 16 := by
  rw [failingPoint, fallsFrom_none v fun j h1 h2 => hr j h1 (by omega)]
  exact if_pos h0

theorem failingPoint_of_valid (hr : ∀ k, 1 ≤ k → k ≤ 16 → v.getD (k - 1) 0 ≤ v.getD k 0) (h0 : 0 < v.getD 16 0) :
    failingPoint v = none := by
  rw [failingPoint, fallsFrom_none v fun j h1 h2 => hr j h1 (by omega)]
  exact if_neg h0.ne'

theorem exchangePending_iff {c : CurveStore} : c.exchangePending = true ↔ c.status c.standby = .pending := by
  simp [CurveStore.exchangePending]

theorem activateSpout_pending (h : (s.spout i).curve.status (s.spout i).curve.standby = .pending) :
    activateSpout i s = Act.only (closeWindow i s) .ok (activateData 3 0 (s.spout i).curve.selected) := by
  rw [activateSpout, if_pos (exchangePending_iff.mpr h)]

section
variable (h : (s.spout i).curve.status (s.spout i).curve.standby ≠ .pending)
include h

theorem activateSpout_invalid {k : Nat} (hk : failingPoint ((s.spout i).curve.points (s.spout i).curve.standby) = some k) :
    activateSpout i s =
      Act.only ((closeWindow i s).upd i Spout.failSwitch) .curveInvalid (activateData 0 k (s.spout i).curve.selected) := by
  simp only [activateSpout, if_neg (mt exchangePending_iff.mp h), hk]

theorem activateSpout_deferred (hk : failingPoint ((s.spout i).curve.points (s.spout i).curve.standby) = none)
    (ho : (s.spout i).ctl.state.compartmentOpen = true) : activateSpout i s =
      Act.only ((closeWindow i s).upd i Spout.deferSwitch) .ok (activateData 2 0 (s.spout i).curve.selected) := by
  simp only [activateSpout, if_neg (mt exchangePending_iff.mp h), hk, if_pos ho]

theorem activateSpout_now (hk : failingPoint ((s.spout i).curve.points (s.spout i).curve.standby) = none)
    (ho : (s.spout i).ctl.state.compartmentOpen = false) : activateSpout i s =
      Act.only ((closeWindow i s).upd i Spout.switchNow) .ok (activateData 1 0 (s.spout i).curve.standby) := by
  simp [activateSpout, mt exchangePending_iff.mp h, hk, ho]

end

theorem activateAct_badLength (h : ps.length ≠ 1) : activateAct ps s = Act.only s .badParam (.bytes [0, 0, 0]) := by
  rw [activateAct, if_pos h]

theorem activateAct_noSpout {b : Byte} (h : 3 < b.toNat) : activateAct [b] s = Act.only s .badSpout (.bytes [0, 0, 0]) := by
  have hb : byteAt [b] 0 = b.toNat := rfl
  rw [activateAct, if_neg (by simp), hb, spoutOfField_none h]

theorem activateAct_spout : activateAct [byte i.val] s = activateSpout i s := by
  rw [activateAct, if_neg (by simp), byteAt_spout, spoutOfField_val]

/-- R26: closing the window leaves the spouts. -/
theorem closeWindow_spout (i j : SpoutId) (s : State) : (closeWindow i s).spout j = s.spout j := by
  unfold closeWindow
  split <;> rfl

/-- ACTIVATE of a spout that leaves `f` of its record. -/
theorem activate_answers {h : ReqHeader} {f g : Spout → Spout} {st : Status} {mark failing : Nat} {sel : Bank}
    (ht : s.takes h 0x15) (hf : f (s.spout i) = g (s.spout i))
    (ha : activateSpout i s = Act.only ((closeWindow i s).upd i f) st (activateData mark failing sel)) :
    s.answers (.activate h [byte i.val]) h .activate ((closeWindow i s).upd i g) st
      fun _ => [byte mark, byte failing, byte sel.code] := by
  have hu : (closeWindow i s).upd i f = (closeWindow i s).upd i g := upd_congr _ _ (by rw [closeWindow_spout, hf])
  exact answers_of rfl ht (by simp) (activateAct_spout.trans (ha.trans (by rw [hu]))) rfl

theorem standby_of_a {c : CurveStore} (h : c.selected = .a) : c.standby = .b := by rw [CurveStore.standby, h]; rfl
theorem standby_of_b {c : CurveStore} (h : c.selected = .b) : c.standby = .a := by rw [CurveStore.standby, h]; rfl

theorem switchNow_of_a (h : p.curve.selected = .a) : p.switchNow =
    { p with
      curve := { p.curve with
        statusA := if p.curve.valid then .standbyValid else .standbyUnchecked, statusB := .active, selected := .b, valid := true }
      alerts := p.alerts.set 4 (p.alerts[4].occur 1) } := by
  simp only [Spout.switchNow, CurveStore.exchange, standby_of_a h, h]
  rfl

theorem switchNow_of_b (h : p.curve.selected = .b) : p.switchNow =
    { p with
      curve := { p.curve with
        statusA := .active, statusB := if p.curve.valid then .standbyValid else .standbyUnchecked, selected := .a, valid := true }
      alerts := p.alerts.set 4 (p.alerts[4].occur 0) } := by
  simp only [Spout.switchNow, CurveStore.exchange, standby_of_b h, h]
  rfl

end Sys2Proof.Machine

namespace Sys2Proof.Settled

open Sys2Proof.Machine

/-- Settles O54: the checks of OPEN_WINDOW, and a read from either place. -/
theorem curveWindow : Obligations.CurveWindow := by
  refine ⟨fun s h spout bank first last ps ht => ⟨fun hp hl => ?_, fun hs => ?_, fun i hi => ⟨fun hb => ?_,
    fun b hb => ⟨fun hbad => ?_, fun hle hmax => ?_⟩⟩⟩, fun s h ps hp start => ⟨fun he => ?_, fun he ho => ?_, fun he ho => ?_⟩⟩
  · exact answers_of rfl ht hp (openWindowAct_badLength hl) rfl
  · exact answers_of rfl ht (by simp) (openWindowAct_noSpout hs) rfl
  · subst hi
    exact answers_of rfl ht (by simp) (openWindowAct_noBank hb) (by rw [windowData_none]; rfl)
  · subst hi hb
    exact answers_of rfl ht (by simp) (openWindowAct_bank.trans (if_pos hbad)) (by rw [windowData_some]; rfl)
  · subst hi hb
    exact answers_of rfl ht (by simp) (openWindowAct_bank.trans (if_neg (by omega))) (by rw [windowData_some]; rfl)
  · exact read_answers hp (readAct_badLength he)
  · subst he
    exact read_answers hp (readAct_closed ho)
  · subst he
    exact read_answers hp (readAct_open ho)

/-- Settles O55: what the values stored so far leave, by induction on their number. -/
theorem writeWindow : Obligations.WriteWindow := by
  intro s h ps hp w c counted writable gives start
  have hwritable : writable ↔ ¬ c.bankLocked w.bank = true := by rw [bankLocked_iff, not_or]
  refine ⟨fun ho => write_answers hp (writeAct_closed ho), fun ho hc => write_answers hp (writeAct_badLength ho hc),
    fun ho hc hw => write_answers hp (writeAct_locked ho hc (not_not.mp (mt hwritable.mpr hw))), fun ho hc hw hlast => ?_⟩
  have took : (writeFrom start ps s).Took (fun k => word16At ps (2 * k)) (c.points w.bank) start
      (min (ps.length / 2) (w.last + 1 - start)) := Writing.took_fold hlast _
  refine ⟨afterWrite (writeFrom start ps s) s, ?_, ?_, fun hn => ?_, fun hn => ⟨?_, ?_⟩⟩
  · have hact := writeAct_taken (cursor := start) ho hc (hwritable.mp hw)
    rw [took.stored] at hact
    refine write_answers hp (hact.trans ?_)
    rw [Status.clampedIf, if_congr took.clamped rfl rfl]
  · rw [afterWrite_window, took.cursor]
  · rw [afterWrite_window]
    exact afterWrite_of_none (took.stored.trans hn)
  · rw [afterWrite_points (took.stored.trans_ne hn)]
    exact took.points
  · rw [afterWrite_points (took.stored.trans_ne hn), afterWrite_window]
    refine (afterWrite_of_some (took.stored.trans_ne hn)).trans ?_
    exact congrArg (fun u : State => { u with window := { s.window with cursor := (writeFrom start ps s).cursor } })
      (upd_congr s w.spout rfl)

/-- Settles O56: the exchange pending, the first failing point, and the exchange itself, at once or deferred. -/
theorem activate : Obligations.Activate := by
  refine ⟨fun s h ps ht => ⟨fun hp hl => answers_of rfl ht hp (activateAct_badLength hl) rfl, fun b hb hlt => ?_⟩,
    fun s h i ht => ⟨fun hpend => ?_, fun hpend => ⟨fun k h1 h16 hf hr => ?_, fun hr h0 => ?_, fun hr h0 ho => ?_,
      fun hr h0 ho hs => ?_, fun hr h0 ho hs => ?_⟩⟩⟩
  · subst hb
    exact answers_of rfl ht (by simp) (activateAct_noSpout hlt) rfl
  · exact answers_of rfl ht (by simp) (activateAct_spout.trans (activateSpout_pending hpend)) rfl
  · exact activate_answers ht rfl (activateSpout_invalid hpend (failingPoint_of_fall h1 h16 hf hr))
  · exact activate_answers ht rfl (activateSpout_invalid hpend (failingPoint_of_flat hr h0))
  · exact activate_answers ht rfl (activateSpout_deferred hpend (failingPoint_of_valid hr h0) ho)
  · refine activate_answers ht (switchNow_of_a hs) ((activateSpout_now hpend (failingPoint_of_valid hr h0) ho).trans ?_)
    rw [standby_of_a hs]
  · refine activate_answers ht (switchNow_of_b hs) ((activateSpout_now hpend (failingPoint_of_valid hr h0) ho).trans ?_)
    rw [standby_of_b hs]

end Sys2Proof.Settled
end

section
/-! PROOFS. The requests of the lane map: MAP_LANE (R149) and UNMAP_LANE (R150). -/

set_option Elab.async false

namespace Sys2Proof.Machine

variable {s : State} {i : SpoutId} {l : LaneId} {r : Role} {e : Lane} {ps : List Byte} {lane spout role flag : Byte}

theorem roleOfCode_none {n : Nat} (h : 4 < n) : roleOfCode n = none := by
  match n, h with
  | _ + 5, _ => rfl

theorem roleOfCode_byte (r : Role) : roleOfCode (byte r.code).toNat = some r := by cases r <;> rfl

theorem laneOfField_byte {b : Byte} (h : laneOfField b.toNat = some l) : byte l.val = b := by
  rw [val_of_laneOfField h, byte_toNat]

/-! ### MAP_LANE -/

theorem mapLaneAct_badLength (h : ps.length ≠ 4) : mapLaneAct ps s = Act.only s .badParam (laneData none s) := by
  rw [mapLaneAct, if_pos h]

theorem mapLaneAct_noSpout (h : 3 < spout.toNat) : mapLaneAct [lane, spout, role, flag] s =
    Act.only s .badSpout (laneData (laneOfField lane.toNat) s) := by
  have hb : byteAt [lane, spout, role, flag] 1 = spout.toNat := rfl
  rw [mapLaneAct, if_neg (by simp), hb, spoutOfField_none h]
  rfl

/-- The second byte of a MAP_LANE names the spout. -/
theorem byteAt_mapLane_spout : byteAt [lane, byte i.val, role, flag] 1 = i.val := toNat_byte_spout i

theorem byteAt_mapLane (b : Byte) : byteAt [lane, b, role, flag] 0 = lane.toNat ∧
    byteAt [lane, b, role, flag] 2 = role.toNat ∧ byteAt [lane, b, role, flag] 3 = flag.toNat := ⟨rfl, rfl, rfl⟩

theorem mapLaneAct_badParam (h : laneOfField lane.toNat = none ∨ 4 < role.toNat ∨ 1 < flag.toNat) :
    mapLaneAct [lane, byte i.val, role, flag] s = Act.only s .badParam (laneData (laneOfField lane.toNat) s) := by
  obtain ⟨h0, h2, h3⟩ := byteAt_mapLane (lane := lane) (role := role) (flag := flag) (byte i.val)
  rw [mapLaneAct, if_neg (by simp), byteAt_mapLane_spout, h0, h2, h3, spoutOfField_val]
  cases hl : laneOfField lane.toNat with
  | none => rfl
  | some l =>
    cases hr : roleOfCode role.toNat with
    | none => rfl
    | some r =>
      have hrole : ¬ 4 < role.toNat := fun hlt => by rw [roleOfCode_none hlt] at hr; cases hr
      exact if_neg (by simp [hl, hrole] at h; omega)

theorem mapLaneAct_checked (hl : laneOfField lane.toNat = some l) (hflag : flag.toNat ≤ 1) :
    mapLaneAct [lane, byte i.val, byte r.code, flag] s = mapLaneChecked l i r (flag = 1) s := by
  obtain ⟨h0, h2, h3⟩ := byteAt_mapLane (lane := lane) (role := byte r.code) (flag := flag) (byte i.val)
  have hbit : (flag.toNat == 1) = decide (flag = 1) := by
    rw [Bool.eq_iff_iff, beq_iff_eq, decide_eq_true_iff, ← BitVec.toNat_inj]
    rfl
  rw [mapLaneAct, if_neg (by simp), byteAt_mapLane_spout, h0, h2, h3, spoutOfField_val, hl, roleOfCode_byte, ← hbit]
  exact if_pos hflag

theorem mapLaneChecked_running {fwd : Bool} (h : (s.spout i).ctl.state ≠ .parked) :
    mapLaneChecked l i r fwd s = Act.only s .refusedState (laneData (some l) s) := if_pos h

section
variable {fwd : Bool} (hp : (s.spout i).ctl.state = .parked)
include hp

theorem mapLaneChecked_inUse (hl : (s.lane l).isSome = true) :
    mapLaneChecked l i r fwd s = Act.only s .laneInUse (laneData (some l) s) := by
  rw [mapLaneChecked, if_neg (not_not.mpr hp), if_pos hl]

variable (hl : s.lane l = none)
include hl

theorem mapLaneChecked_filled (hr : (s.laneOf i r).isSome = true) :
    mapLaneChecked l i r fwd s = Act.only s .roleFilled (laneData (some l) s) := by
  rw [mapLaneChecked, if_neg (not_not.mpr hp), if_neg (by simp [hl]), if_pos hr]

theorem mapLaneChecked_taken (hr : s.laneOf i r = none) : mapLaneChecked l i r fwd s =
    Act.only (mapLane l i r fwd s) .ok (laneData (some l) (mapLane l i r fwd s)) := by
  rw [mapLaneChecked, if_neg (not_not.mpr hp), if_neg (by simp [hl]), if_neg (by simp [hr])]

end

theorem mapLane_of_ne {fwd : Bool} (h : r ≠ .force) : mapLane l i r fwd s = s.setLane l (some (Lane.mapped i r fwd)) := if_neg h

theorem mapLane_force {fwd : Bool} :
    mapLane l i .force fwd s = (s.setLane l (some (Lane.mapped i .force fwd))).upd i Spout.mapForce := by rw [mapLane, if_pos rfl]

theorem mapLane_lane {fwd : Bool} : (mapLane l i r fwd s).lane l = some (Lane.mapped i r fwd) := by
  by_cases h : r = .force
  · rw [h, mapLane_force, upd_lane, lane_setLane_same]
  · rw [mapLane_of_ne h, lane_setLane_same]

/-- R149: the response of a taken MAP_LANE carries the new entry. -/
theorem laneData_mapLane {fwd : Bool} (hl : laneOfField lane.toNat = some l) :
    (laneData (some l) (mapLane l i r fwd s)).build = fun _ => [lane, entryByte (some (Lane.mapped i r fwd))] := by
  funext t
  show [byte l.val, entryByte ((mapLane l i r fwd s).lane l)] = _
  rw [mapLane_lane, laneOfField_byte hl]

/-! ### UNMAP_LANE -/

theorem unmapLaneAct_badLength (h : ps.length ≠ 1) : unmapLaneAct ps s = Act.only s .badParam (laneData none s) := by
  rw [unmapLaneAct, if_pos h]

theorem unmapLaneAct_noLane (h : laneOfField lane.toNat = none) :
    unmapLaneAct [lane] s = Act.only s .badParam (laneData none s) := by
  have hb : byteAt [lane] 0 = lane.toNat := rfl
  rw [unmapLaneAct, if_neg (by simp), hb, h]

theorem unmapLaneAct_lane (hl : laneOfField lane.toNat = some l) : unmapLaneAct [lane] s =
    match s.lane l with
    | none => Act.only s .okNoop (laneData (some l) s)
    | some e =>
      if (s.spout e.spout).ctl.state ≠ .parked then Act.only s .refusedState (laneData (some l) s)
      else Act.only (unmapLane l e s) .ok (laneData (some l) (unmapLane l e s)) := by
  have hb : byteAt [lane] 0 = lane.toNat := rfl
  rw [unmapLaneAct, if_neg (by simp), hb, hl] <;> rfl

theorem unmapLaneAct_absent (hl : laneOfField lane.toNat = some l) (he : s.lane l = none) :
    unmapLaneAct [lane] s = Act.only s .okNoop (laneData (some l) s) := by rw [unmapLaneAct_lane hl, he]

theorem unmapLaneAct_running (hl : laneOfField lane.toNat = some l) (he : s.lane l = some e)
    (hp : (s.spout e.spout).ctl.state ≠ .parked) : unmapLaneAct [lane] s = Act.only s .refusedState (laneData (some l) s) := by
  rw [unmapLaneAct_lane hl, he]
  exact if_pos hp

theorem unmapLaneAct_taken (hl : laneOfField lane.toNat = some l) (he : s.lane l = some e)
    (hp : (s.spout e.spout).ctl.state = .parked) :
    unmapLaneAct [lane] s = Act.only (unmapLane l e s) .ok (laneData (some l) (unmapLane l e s)) := by
  rw [unmapLaneAct_lane hl, he]
  exact if_neg (not_not.mpr hp)

theorem laneData_unmapLane (hl : laneOfField lane.toNat = some l) :
    (laneData (some l) (unmapLane l e s)).build = fun _ => [lane, 0] := by
  funext t
  show [byte l.val, entryByte ((unmapLane l e s).lane l)] = _
  rw [unmapLane_lane, if_pos rfl, laneOfField_byte hl]
  rfl

theorem unmapLane_of_ne (h : e.role ≠ .gate) : unmapLane l e s = s.setLane l none := if_neg h

theorem unmapLane_gate (h : e.role = .gate) :
    unmapLane l e s = (s.setLane l none).upd e.spout fun p => { p with gatePending := false } := if_pos h

end Sys2Proof.Machine

namespace Sys2Proof.Settled

open Sys2Proof.Machine

/-- Settles O57: the checks of both requests in their order, and what a taken one writes. -/
theorem mapAndUnmapLane : Obligations.MapAndUnmapLane := by
  intro s h lane spout role flag ps named entry echo maps unmaps req
  have hecho : ∀ l, (laneData l s).build = fun _ => echo l := fun l => by
    cases l with
    | none => rfl
    | some l => cases hl : s.lane l <;> simp only [laneData, ReplyData.build, hl, echo] <;> rfl
  have hshown : ∀ l e, named = some l → s.lane l = some e → (laneData (some l) s).build = fun _ => [lane, entry (some e)] :=
    fun l e hl he => by rw [hecho, ← laneOfField_byte hl, ← he]
  refine ⟨fun hp hl ht => answers_of rfl ht hp (mapLaneAct_badLength hl) rfl,
    fun hs ht => answers_of rfl ht (by simp [req]) (mapLaneAct_noSpout hs) (hecho _),
    fun i hi => ⟨fun hbad ht => ?_, fun l r hl hr hflag => ?_⟩, fun hp hl ht => answers_of rfl ht hp (unmapLaneAct_badLength hl) rfl,
    fun hl ht => answers_of rfl ht (by simp) (unmapLaneAct_noLane hl) rfl, fun l hl => ⟨fun he ht => ?_, fun e he hp ht => ?_,
    fun e he hp => ?_⟩⟩
  · subst hi
    exact answers_of rfl ht (by simp [req]) (mapLaneAct_badParam hbad) (hecho _)
  · subst hi hr
    have hact : mapLaneAct req s = mapLaneChecked l i r (flag = 1) s := mapLaneAct_checked hl hflag
    have hnamed : (laneData (some l) s).build = fun _ => echo named := by rw [hecho, ← hl]
    refine ⟨fun hp ht => ?_, fun hp hu ht => ?_, fun hp hu hf ht => ?_, fun hp hu hf => ?_⟩
    · exact answers_of rfl ht (by simp [req]) (hact.trans (mapLaneChecked_running hp)) hnamed
    · exact answers_of rfl ht (by simp [req]) (hact.trans (mapLaneChecked_inUse hp hu)) hnamed
    · exact answers_of rfl ht (by simp [req]) (hact.trans (mapLaneChecked_filled hp hu hf)) hnamed
    · have htaken : maps req (mapLane l i r (flag = 1) s) .ok [lane, entry (some (Lane.mapped i r (flag = 1)))] := fun ht =>
        answers_of rfl ht (by simp [req]) (hact.trans (mapLaneChecked_taken hp hu hf)) (laneData_mapLane hl)
      refine ⟨fun hr => ?_, fun hr => ?_⟩
      · rwa [mapLane_of_ne hr] at htaken
      · subst hr
        rwa [mapLane_force] at htaken
  · refine answers_of rfl ht (by simp) (unmapLaneAct_absent hl he) ?_
    rw [hecho, ← laneOfField_byte hl]
    simp only [echo, he, entry]
  · exact answers_of rfl ht (by simp) (unmapLaneAct_running hl he hp) (hshown l e hl he)
  · have htaken : unmaps [lane] (unmapLane l e s) .ok [lane, 0] := fun ht =>
      answers_of rfl ht (by simp) (unmapLaneAct_taken hl he hp) (laneData_unmapLane hl)
    refine ⟨fun hg => ?_, fun hg => ?_⟩
    · rwa [unmapLane_of_ne hg] at htaken
    · rwa [unmapLane_gate hg] at htaken

end Sys2Proof.Settled
end

section
/-! PROOFS. The requests of the order store: ENQUEUE (R118 to R122), CANCEL (R128, R129) and RESULTS (R132). -/

set_option Elab.async false

namespace Sys2Proof.Machine

variable {s : State} {i : SpoutId} {p : Spout} {ps : List Byte}

/-! ### The parameters of an ENQUEUE -/

theorem byteAt_append (xs ys : List Byte) (k : Nat) : byteAt (xs ++ ys) (xs.length + k) = byteAt ys k := by
  rw [byteAt, List.getD_append_right _ _ _ _ (Nat.le_add_right _ _), Nat.add_sub_cancel_left, byteAt]

/-- R159: a two-byte field reads back wherever it stands. -/
theorem word16At_append (xs rest : List Byte) (v : BitVec 16) : word16At (xs ++ (be16 v.toNat ++ rest)) xs.length = v.toNat := by
  have h0 : byteAt (xs ++ (be16 v.toNat ++ rest)) xs.length = _ := byteAt_append xs (be16 v.toNat ++ rest) 0
  refine Eq.trans ?_ (word16At_be16 v rest)
  rw [word16At, word16At, byteAt_append, h0]

/-- R119: a row of two-byte fields reads back, one after another. -/
theorem words_append (ts : List (BitVec 16)) (xs rest : List Byte) :
    ((List.range ts.length).map fun k => word16At (xs ++ ((ts.flatMap fun t => be16 t.toNat) ++ rest)) (xs.length + 2 * k)) =
      ts.map BitVec.toNat := by
  induction ts generalizing xs with
  | nil => rfl
  | cons t ts ih =>
    have htail := ih (xs ++ be16 t.toNat)
    rw [List.length_cons, List.range_succ_eq_map, List.map_cons, List.map_cons, List.flatMap_cons, List.append_assoc,
      Nat.mul_zero, Nat.add_zero, word16At_append, List.map_map, ← htail]
    refine congrArg (_ :: ·) (List.map_congr_left fun k _ => ?_)
    simp only [Function.comp, List.append_assoc, List.length_append]
    exact congrArg _ (show _ = xs.length + 2 + 2 * k by omega)

/-- R185: the parameters of an ENQUEUE of these values. -/
def enqueueParams (i : SpoutId) (tag cap limit : BitVec 16) (targets : List (BitVec 16)) : List Byte :=
  [byte i.val] ++ be16 tag.toNat ++ [byte targets.length] ++ (targets.flatMap fun t => be16 t.toNat) ++ be16 cap.toNat ++
    be16 limit.toNat

section
variable (i : SpoutId) (tag cap limit : BitVec 16) (targets : List (BitVec 16))

theorem enqueueParams_eq : enqueueParams i tag cap limit targets = ([byte i.val] ++ be16 tag.toNat ++ [byte targets.length]) ++
    ((targets.flatMap fun t => be16 t.toNat) ++ (be16 cap.toNat ++ be16 limit.toNat)) := by
  simp only [enqueueParams, List.append_assoc]

theorem length_words : (targets.flatMap fun t => be16 t.toNat).length = 2 * targets.length := by
  induction targets with
  | nil => rfl
  | cons t ts ih =>
    rw [List.flatMap_cons, List.length_append, ih, List.length_cons]
    exact (show 2 + 2 * ts.length = _ by omega)

theorem length_enqueueParams : (enqueueParams i tag cap limit targets).length = 8 + 2 * targets.length := by
  rw [enqueueParams_eq, List.length_append, List.length_append (as := targets.flatMap _), length_words]
  exact (show 4 + (2 * targets.length + 4) = _ by omega)

theorem spout_enqueueParams : byteAt (enqueueParams i tag cap limit targets) 0 = i.val := byteAt_spout i _

theorem tag_enqueueParams : word16At (enqueueParams i tag cap limit targets) 1 = tag.toNat := by
  have h := word16At_append [byte i.val] ([byte targets.length] ++ (targets.flatMap fun t => be16 t.toNat) ++ be16 cap.toNat ++
    be16 limit.toNat) tag
  simp only [enqueueParams, List.append_assoc] at h ⊢
  exact h

theorem count_enqueueParams (h : targets.length ≤ 6) : byteAt (enqueueParams i tag cap limit targets) 3 = targets.length := by
  show (byte targets.length).toNat = _
  rw [byte, BitVec.toNat_ofNat]
  omega

theorem targets_enqueueParams (h : targets.length ≤ 6) :
    enqueueTargets (enqueueParams i tag cap limit targets) = targets.map BitVec.toNat := by
  rw [enqueueTargets, count_enqueueParams _ _ _ _ _ h, enqueueParams_eq]
  exact words_append targets ([byte i.val] ++ be16 tag.toNat ++ [byte targets.length]) (be16 cap.toNat ++ be16 limit.toNat)

theorem cap_enqueueParams (h : targets.length ≤ 6) : enqueueCap (enqueueParams i tag cap limit targets) = cap.toNat := by
  have hw := word16At_append ([byte i.val] ++ be16 tag.toNat ++ [byte targets.length] ++ targets.flatMap fun t => be16 t.toNat)
    (be16 limit.toNat) cap
  rw [List.length_append, length_words] at hw
  rw [enqueueCap, count_enqueueParams _ _ _ _ _ h, enqueueParams, List.append_assoc]
  exact hw

theorem limit_enqueueParams (h : targets.length ≤ 6) : enqueueLimit (enqueueParams i tag cap limit targets) = limit.toNat := by
  have hw := word16At_append
    ([byte i.val] ++ be16 tag.toNat ++ [byte targets.length] ++ (targets.flatMap fun t => be16 t.toNat) ++ be16 cap.toNat) [] limit
  rw [List.length_append, List.length_append, length_words, List.append_nil] at hw
  rw [enqueueLimit, count_enqueueParams _ _ _ _ _ h, enqueueParams]
  exact (congrArg _ (show 6 + 2 * targets.length = 4 + 2 * targets.length + 2 by omega)).trans hw

theorem clampFlowLimit_eq : clampFlowLimit limit.toNat =
    if limit = 0 then none else some (max 500 (min 20000 limit.toNat)) := by
  have h0 : limit.toNat = 0 ↔ limit = 0 := by rw [← BitVec.toNat_inj]; rfl
  rw [clampFlowLimit, clamp_eq _ _ _ (by omega), if_congr h0 rfl rfl]

/-- R119: the order that a taken ENQUEUE stores. -/
theorem enqueueOrder_eq (h : targets.length ≤ 6) : enqueueOrder (enqueueParams i tag cap limit targets) =
    { tag := tag.toNat
      targets := targets.map fun t => max 100 (min 60000 t.toNat)
      cap := max 100 (min 1000 cap.toNat)
      flowLimit := if limit = 0 then none else some (max 500 (min 20000 limit.toNat))
      nextIndex := 1, aborted := false } := by
  rw [enqueueOrder, tag_enqueueParams, targets_enqueueParams _ _ _ _ _ h, cap_enqueueParams _ _ _ _ _ h,
    limit_enqueueParams _ _ _ _ _ h, clampFlowLimit_eq, clamp_eq _ _ _ (by omega), List.map_map]
  congr 1
  exact List.map_congr_left fun t _ => clamp_eq _ _ _ (by omega)

theorem clamp_moves {lo hi n : Nat} (h : lo ≤ hi) : (clamp lo hi n != n) = true ↔ n < lo ∨ hi < n := by
  rw [clamp_eq _ _ _ h, bne_iff_ne]
  omega

theorem clampFlowLimit_moves : ((clampFlowLimit limit.toNat).getD 0 != limit.toNat) = true ↔
    (limit ≠ 0 ∧ limit.toNat < 500) ∨ 20000 < limit.toNat := by
  have h0 : limit.toNat = 0 ↔ limit = 0 := by rw [← BitVec.toNat_inj]; rfl
  rw [Ne, ← h0, clampFlowLimit, bne_iff_ne]
  by_cases hz : limit.toNat = 0
  · simp [hz]
  · rw [if_neg hz, Option.getD_some, clamp_eq _ _ _ (by omega)]
    omega

/-- R119: a value of the ENQUEUE was outside its range. -/
theorem enqueueClamped_iff (h : targets.length ≤ 6) : enqueueClamped (enqueueParams i tag cap limit targets) = true ↔
    (∃ t ∈ targets, t.toNat < 100 ∨ 60000 < t.toNat) ∨ cap.toNat < 100 ∨ 1000 < cap.toNat ∨
      (limit ≠ 0 ∧ limit.toNat < 500) ∨ 20000 < limit.toNat := by
  rw [enqueueClamped, targets_enqueueParams _ _ _ _ _ h, cap_enqueueParams _ _ _ _ _ h, limit_enqueueParams _ _ _ _ _ h,
    Bool.or_eq_true, Bool.or_eq_true, clampFlowLimit_moves, clamp_moves (by omega), List.any_map, List.any_eq_true, or_assoc,
    or_assoc]
  simp only [Function.comp, clamp_moves (show 100 ≤ 60000 by omega)]

end

/-! ### The checks of an ENQUEUE -/

theorem enqueueAct_short (h : ps.length < 4) :
    enqueueAct ps s = Act.only s .badParam (.orderState (enqueueTag ps) (enqueueSpout ps) true) := by rw [enqueueAct, if_pos h]

theorem enqueueTag_of_short (h : ps.length < 4) : enqueueTag ps = if ps.length = 3 then word16At ps 1 else 0 := by
  unfold enqueueTag
  by_cases h3 : ps.length = 3
  · rw [if_neg (by omega), if_pos h3]
  · rw [if_pos (by omega), if_neg h3]

theorem enqueueTag_of_long (h : 4 ≤ ps.length) : enqueueTag ps = word16At ps 1 := if_neg (by omega)

theorem enqueueSpout_none (h : ps = [] ∨ 3 < byteAt ps 0) : enqueueSpout ps = none := by
  unfold enqueueSpout
  split
  · rfl
  · next hl => exact spoutOfField_none (h.resolve_left fun he => hl (by rw [he]; rfl))

theorem enqueueSpout_some (hl : 1 ≤ ps.length) (h : byteAt ps 0 = i.val) : enqueueSpout ps = some i := by
  rw [enqueueSpout, if_neg (by omega), h, spoutOfField_val]

theorem enqueueMalformed_iff (h : 4 ≤ ps.length) : enqueueMalformed ps = true ↔
    ¬ (1 ≤ byteAt ps 3 ∧ byteAt ps 3 ≤ 6 ∧ word16At ps 1 ≠ 0 ∧ ps.length = 8 + 2 * byteAt ps 3) := by
  simp only [enqueueMalformed, enqueueTag_of_long h, Bool.or_eq_true, decide_eq_true_eq, beq_iff_eq, bne_iff_ne]
  omega

theorem enqueueAct_noSpout (hl : 4 ≤ ps.length) (h : 3 < byteAt ps 0) :
    enqueueAct ps s = Act.only s .badSpout (.orderState (word16At ps 1) none false) := by
  rw [enqueueAct, if_neg (by omega), enqueueSpout_none (.inr h), enqueueTag_of_long hl]

section
variable (hl : 4 ≤ ps.length) (hi : byteAt ps 0 = i.val)
include hl hi

theorem enqueueAct_malformed
    (h : ¬ (1 ≤ byteAt ps 3 ∧ byteAt ps 3 ≤ 6 ∧ word16At ps 1 ≠ 0 ∧ ps.length = 8 + 2 * byteAt ps 3)) :
    enqueueAct ps s = Act.only s .badParam (.orderState (word16At ps 1) (some i) true) := by
  rw [enqueueAct, if_neg (by omega), enqueueSpout_some (by omega) hi, enqueueTag_of_long hl]
  exact if_pos ((enqueueMalformed_iff hl).mpr h)

theorem enqueueAct_wellMade
    (h : 1 ≤ byteAt ps 3 ∧ byteAt ps 3 ≤ 6 ∧ word16At ps 1 ≠ 0 ∧ ps.length = 8 + 2 * byteAt ps 3) :
    enqueueAct ps s = enqueueChecked i ps s := by
  rw [enqueueAct, if_neg (by omega), enqueueSpout_some (by omega) hi]
  exact if_neg (mt (enqueueMalformed_iff hl).mp (not_not.mpr h))

end

/-- R118, check 3: the spout is parked and not configured. -/
def State.unconfigured (s : State) (i : SpoutId) : Prop := (s.spout i).ctl.state = .parked ∧
  ¬ ((s.spout i).curve.valid = true ∧ (s.laneOf i .force).isSome = true ∧ (s.laneOf i .gate).isSome = true ∧
    (s.laneOf i .air).isSome = true)

theorem unconfigured_iff : (s.spout i).ctl.state = .parked ∧ (!s.configured i) = true ↔ s.unconfigured i := by
  rw [State.unconfigured, Bool.not_eq_true', ← Bool.not_eq_true, configured_iff]

theorem tagUsed_iff {tag : Nat} : (p.queue.any fun o => o.tag == tag) = true ↔ ∃ o ∈ p.queue, o.tag = tag := by
  simp [List.any_eq_true]

theorem enqueueChecked_unconfigured (h : s.unconfigured i) :
    enqueueChecked i ps s = Act.only s .notConfigured (.orderState (word16At ps 1) (some i) true) :=
  if_pos (unconfigured_iff.mpr h)

section
variable (hc : ¬ s.unconfigured i)
include hc

theorem enqueueChecked_inUse (h : ∃ o ∈ (s.spout i).queue, o.tag = word16At ps 1) :
    enqueueChecked i ps s = Act.only s .tagInUse (.orderState (word16At ps 1) (some i) true) := by
  rw [enqueueChecked, if_neg (mt unconfigured_iff.mp hc), if_pos (tagUsed_iff.mpr h)]

variable (hu : ¬ ∃ o ∈ (s.spout i).queue, o.tag = word16At ps 1)
include hu

theorem enqueueChecked_queueFull (h : 8 ≤ (s.spout i).queue.length) :
    enqueueChecked i ps s = Act.only s .queueFull (.orderState (word16At ps 1) (some i) true) := by
  rw [enqueueChecked, if_neg (mt unconfigured_iff.mp hc), if_neg (mt tagUsed_iff.mp hu), if_pos h]

variable (hq : (s.spout i).queue.length < 8)
include hq

theorem enqueueChecked_poolFull (h : 16 ≤ s.heldOrders) :
    enqueueChecked i ps s = Act.only s .poolFull (.orderState (word16At ps 1) (some i) true) := by
  rw [enqueueChecked, if_neg (mt unconfigured_iff.mp hc), if_neg (mt tagUsed_iff.mp hu), if_neg (by omega), if_pos h]

theorem enqueueChecked_taken (h : s.heldOrders < 16) : enqueueChecked i ps s =
    Act.only (s.upd i (Spout.join (enqueueOrder ps))) (.clampedIf (enqueueClamped ps))
      (.orderState (word16At ps 1) (some i) true) := by
  rw [enqueueChecked, if_neg (mt unconfigured_iff.mp hc), if_neg (mt tagUsed_iff.mp hu), if_neg (by omega), if_neg (by omega)]

end

/-- R118, R119: an ENQUEUE that passes its checks stores its order. -/
theorem enqueueAct_taken {tag cap limit : BitVec 16} {targets : List (BitVec 16)} (h1 : 1 ≤ targets.length)
    (h6 : targets.length ≤ 6) (htag : tag ≠ 0) (hc : ¬ s.unconfigured i) (hu : ∀ o ∈ (s.spout i).queue, o.tag ≠ tag.toNat)
    (hq : (s.spout i).queue.length < 8) (hf : s.heldOrders < 16) :
    enqueueAct (enqueueParams i tag cap limit targets) s =
      Act.only (s.upd i (Spout.join (enqueueOrder (enqueueParams i tag cap limit targets))))
        (.clampedIf (enqueueClamped (enqueueParams i tag cap limit targets))) (.orderState tag.toNat (some i) true) := by
  have hlen := length_enqueueParams i tag cap limit targets
  have hcount := count_enqueueParams i tag cap limit targets h6
  have htagAt := tag_enqueueParams i tag cap limit targets
  have htag0 : tag.toNat ≠ 0 := fun h0 => htag (BitVec.eq_of_toNat_eq h0)
  rw [enqueueAct_wellMade (by omega) (spout_enqueueParams i tag cap limit targets)
    ⟨by omega, by omega, by rwa [htagAt], by omega⟩, enqueueChecked_taken hc (by rw [htagAt]; simpa using hu) hq hf, htagAt]

/-! ### What a new order does to its spout -/

section
variable {o : Order}

theorem join_behind (h : p.queue ≠ []) : p.join o = { p with queue := p.queue ++ [o] } := by simp [Spout.join, h]

variable (hq : p.queue = [])
include hq

theorem join_head : p.join o = ({ p with queue := p.queue ++ [o] } : Spout).newHead := by simp [Spout.join, hq]

theorem join_parked (hst : p.ctl.state = .parked) (hw : p.zero.retryWait = none) : p.join o =
    { p with
      queue := p.queue ++ [o]
      reportDue := true
      ctl := { p.ctl with state := .zeroing }
      zero := { p.zero with
        stepsDone := 0, partialSum := 0, makeupOwed := true, dueCount := 0
        step := some ⟨.makeup, .ready, 0, 0, 256, p.par.zeroBand⟩ } } := by
  have hdue : (({ p with queue := p.queue ++ [o], zero := p.zero.unpark } : Spout).enter .ready).zeroingDue = true :=
    zeroingDue_iff.mpr ⟨.inr rfl, hw, .inl rfl⟩
  rw [join_head hq, Spout.newHead, hst]
  exact (examineZeroing_of_due hdue).trans rfl

theorem join_idle (hst : p.ctl.state = .idle) : p.join o =
    ({ p with queue := p.queue ++ [o], reportDue := true, ctl := { p.ctl with state := .ready } } : Spout).examineZeroing := by
  rw [join_head hq, Spout.newHead, hst]
  rfl

theorem join_faulted (hst : p.ctl.state = .faulted) : p.join o = { p with queue := p.queue ++ [o], reportDue := true } := by
  rw [join_head hq, Spout.newHead, hst]

theorem join_zeroing (hst : p.ctl.state = .zeroing) :
    p.join o = ({ p with queue := p.queue ++ [o] } : Spout).readyWhileZeroing := by
  rw [join_head hq, Spout.newHead, hst]

end

theorem readyWhileZeroing_makeup {st : ZeroStep} (h : p.zero.step = some st) (hk : st.kind = .makeup) :
    p.readyWhileZeroing = { p with zero := { p.zero with step := some { st with origin := .ready } } } := by
  simp only [Spout.readyWhileZeroing, h, if_pos hk]

theorem readyWhileZeroing_other {st : ZeroStep} (h : p.zero.step = some st) (hk : st.kind ≠ .makeup) : p.readyWhileZeroing =
    ({ p with reportDue := true, ctl := { p.ctl with state := .ready }, zero := { p.zero with step := none } } : Spout).examineZeroing := by
  simp only [Spout.readyWhileZeroing, h, if_neg hk]
  rfl

/-! ### CANCEL -/

section
variable {spout : Byte} {tag : BitVec 16}

theorem cancelAct_badLength (h : ps.length ≠ 3) : cancelAct ps s = Act.only s .badParam (.orderState 0 none true) := by
  rw [cancelAct, if_pos h]

theorem word16At_cancel (spout : Byte) (tag : BitVec 16) : word16At ([spout] ++ be16 tag.toNat) 1 = tag.toNat := by
  have h := word16At_append [spout] [] tag
  rwa [List.append_nil] at h

theorem cancelAct_noSpout (h : 3 < spout.toNat) :
    cancelAct ([spout] ++ be16 tag.toNat) s = Act.only s .badSpout (.orderState tag.toNat none false) := by
  have hb : byteAt ([spout] ++ be16 tag.toNat) 0 = spout.toNat := rfl
  rw [cancelAct, if_neg (by simp [be16]), hb, spoutOfField_none h, word16At_cancel]

theorem cancelAct_spout : cancelAct ([byte i.val] ++ be16 tag.toNat) s = cancelSpout i tag.toNat s := by
  have hb : byteAt ([byte i.val] ++ be16 tag.toNat) 0 = i.val := byteAt_spout i _
  rw [cancelAct, if_neg (by simp [be16]), hb, spoutOfField_val, word16At_cancel]

end

section
variable {tag : Nat} {o : Order} {rest : List Order}

theorem cancelSpout_noTag (h : ∀ o ∈ (s.spout i).queue, o.tag ≠ tag) :
    cancelSpout i tag s = Act.only s .noSuchTag (.orderState tag (some i) true) := if_pos (by simpa using h)

theorem cancelSpout_behind (hq : (s.spout i).queue = o :: rest) (ho : o.tag ≠ tag) (h : ∃ r ∈ rest, r.tag = tag) :
    cancelSpout i tag s = Act.only (s.upd i (Spout.removeOrder tag)) .ok (.orderState tag (some i) true) := by
  obtain ⟨r, hr, ht⟩ := h
  have hused : (rest.any fun o => o.tag == tag) = true := List.any_eq_true.mpr ⟨r, hr, by simp [ht]⟩
  simp [cancelSpout, Spout.headBears, hq, ho, hused]

theorem cancelSpout_head (hq : (s.spout i).queue = o :: rest) (ho : o.tag = tag) :
    cancelSpout i tag s = match (s.spout i).cancelHead tag with
      | some q => Act.only (s.upd i fun _ => q) .ok (.orderState tag (some i) true)
      | none => Act.only s .refusedState (.orderState tag (some i) true) := by
  simp [cancelSpout, Spout.headBears, hq, ho] <;> rfl

theorem cancelSpout_head_taken {q : Spout} (hq : (s.spout i).queue = o :: rest) (ho : o.tag = tag)
    (hc : (s.spout i).cancelHead tag = some q) :
    cancelSpout i tag s = Act.only (s.upd i fun _ => q) .ok (.orderState tag (some i) true) := by
  rw [cancelSpout_head hq ho, hc]

theorem cancelSpout_head_refused (hq : (s.spout i).queue = o :: rest) (ho : o.tag = tag)
    (hc : (s.spout i).cancelHead tag = none) :
    cancelSpout i tag s = Act.only s .refusedState (.orderState tag (some i) true) := by
  rw [cancelSpout_head hq ho, hc]

theorem cancelHead_of_open (h : p.ctl.state.compartmentOpen = true) : p.cancelHead tag = none := by
  unfold Spout.cancelHead
  cases hst : p.ctl.state <;> simp [hst, SpoutState.compartmentOpen] at h ⊢

variable (hq : p.queue = o :: rest)
include hq

theorem removeOrder_behind (ho : o.tag ≠ tag) : p.removeOrder tag =
    { p with queue := o :: rest.filter fun r => r.tag != tag, alerts := p.alerts.set 8 (p.alerts[8].occur 3) } := by
  rw [Spout.removeOrder, hq, List.filter_cons_of_pos (by simp [ho])]
  rfl

variable (ho : o.tag = tag) (hrest : ∀ r ∈ rest, r.tag ≠ o.tag)
include ho hrest

/-- R117, R128: of orders with different tags only the head order leaves. -/
theorem removeOrder_head : p.removeOrder tag = { p with queue := rest, alerts := p.alerts.set 8 (p.alerts[8].occur 3) } := by
  have hkeep : rest.filter (fun r => r.tag != tag) = rest := List.filter_eq_self.mpr fun r hr => by simpa [ho] using hrest r hr
  rw [Spout.removeOrder, hq, List.filter_cons_of_neg (by simp [ho]), hkeep]
  rfl

theorem cancelHead_ready (hst : p.ctl.state = .ready) : p.cancelHead tag = some
    ({ p with
      alerts := p.alerts.set 8 (p.alerts[8].occur 3)
      reportDue := true
      queue := rest
      zero := { p.zero with pendingProceed := false }
      ctl := { p.ctl with state := if rest = [] then .idle else .ready } } : Spout).examineZeroing := by
  simp only [Spout.cancelHead, hst, removeOrder_head hq ho hrest, Spout.headLeftReady, settle_eq]
  rfl

theorem cancelHead_zeroing (hst : p.ctl.state = .zeroing) : p.cancelHead tag = some
    { p with
      alerts := p.alerts.set 8 (p.alerts[8].occur 3)
      reportDue := true
      queue := rest
      zero := { p.zero with
        pendingProceed := false
        step := p.zero.step.map fun st => { st with origin := if rest = [] then .idle else .ready } } } := by
  simp only [Spout.cancelHead, hst, removeOrder_head hq ho hrest, Spout.headLeftZeroing, Spout.clearProceed, List.isEmpty_iff]

theorem cancelHead_faulted (hst : p.ctl.state = .faulted) : p.cancelHead tag = some
    { p with alerts := p.alerts.set 8 (p.alerts[8].occur 3), reportDue := true, queue := rest } := by
  simp only [Spout.cancelHead, hst, removeOrder_head hq ho hrest]

end

/-! ### RESULTS -/

theorem Result.flags_eq (r : Result) : r.flags =
    (if r.zeroStale then 1 else 0) + (if r.filled then 2 else 0) + (if r.tailTimeout then 4 else 0) +
      (if r.unsettled then 8 else 0) + (if r.saturated then 16 else 0) + (if r.switchedAtEnd then 32 else 0) := by
  simp [Result.flags, flagBit]

theorem Result.bytes_eq (r : Result) : r.bytes = be16 r.tag ++
    [byte (r.endReason.code * 16 + r.index),
      byte ((if r.zeroStale then 1 else 0) + (if r.filled then 2 else 0) + (if r.tailTimeout then 4 else 0) +
        (if r.unsettled then 8 else 0) + (if r.saturated then 16 else 0) + (if r.switchedAtEnd then 32 else 0))] ++
    be16 r.targetKg ++ be32 r.finalG ++ be16 r.tau ++ be24 (min 16777215 r.duration) := by
  rw [Result.bytes, Result.flags_eq]

theorem newestNumber_eq (ring : List Result) : newestNumber ring = match ring.getLast? with
    | none => 0
    | some r => r.number := by
  unfold newestNumber
  cases ring.getLast? <;> rfl

theorem length_resultsFrom (ring : List Result) (first count : Nat) :
    (resultsFrom ring first count).length = min count (ring.length - first) := by simp [resultsFrom]

theorem resultsData_eq (ring : List Result) (first count : Nat) : resultsData ring first count =
    [byte (ring.length * 16 + (min count (ring.length - first) - 2)), newestNumber ring] ++
      ((ring.reverse.drop first).take (min 2 count)).flatMap Result.bytes := by
  rw [resultsData, length_resultsFrom, resultsFrom, List.take_take]

theorem resultsAct_badLength (h : ps.length ≠ 3) : resultsAct ps s = Act.only s .badParam (.bytes [0, 0]) := by
  rw [resultsAct, if_pos h]

section
variable {spout first count : Byte}

theorem resultsAct_noSpout (h : 3 < spout.toNat) : resultsAct [spout, first, count] s = Act.only s .badSpout (.bytes [0, 0]) := by
  have hb : byteAt [spout, first, count] 0 = spout.toNat := rfl
  rw [resultsAct, if_neg (by simp), hb, spoutOfField_none h]

theorem resultsAct_spout : resultsAct [byte i.val, first, count] s =
    if 7 < first.toNat ∨ count.toNat = 0 ∨ 8 < count.toNat then
      Act.only s .badParam (.bytes [byte ((s.spout i).ring.length * 16), newestNumber (s.spout i).ring])
    else Act.only s .ok (.bytes (resultsData (s.spout i).ring first.toNat count.toNat)) := by
  rw [resultsAct, if_neg (by simp), byteAt_spout, spoutOfField_val]
  rfl

end

end Sys2Proof.Machine

namespace Sys2Proof.Settled

open Sys2Proof.Machine

/-- Settles O59: the checks in their order, and what the new order does to its spout. -/
theorem enqueue : Obligations.Enqueue := by
  refine ⟨fun s h ps ht hp => ⟨fun hl hs => ?_, fun i h1 hl hi => ?_, fun hl hs => ?_, fun i hl hi => ⟨fun hw => ?_, fun hw hc => ?_,
    fun hw hc hu => ?_, fun hw hc hu hq => ?_, fun hw hc hu hq hf => ?_⟩⟩, fun s h i tag cap limit targets ht h1 h6 htag => ?_⟩
  · exact answers_of rfl ht hp (enqueueAct_short hl) (by rw [enqueueSpout_none hs, enqueueTag_of_short hl]; rfl)
  · exact answers_of rfl ht hp (enqueueAct_short hl) (by rw [enqueueSpout_some h1 hi, enqueueTag_of_short hl]; rfl)
  · exact answers_of rfl ht hp (enqueueAct_noSpout hl hs) rfl
  · exact answers_of rfl ht hp (enqueueAct_malformed hl hi hw) rfl
  · exact answers_of rfl ht hp ((enqueueAct_wellMade hl hi hw).trans (enqueueChecked_unconfigured hc)) rfl
  · exact answers_of rfl ht hp ((enqueueAct_wellMade hl hi hw).trans (enqueueChecked_inUse hc hu)) rfl
  · exact answers_of rfl ht hp ((enqueueAct_wellMade hl hi hw).trans (enqueueChecked_queueFull hc hu hq)) rfl
  · exact answers_of rfl ht hp ((enqueueAct_wellMade hl hi hw).trans (enqueueChecked_poolFull hc hu hq hf)) rfl
  · intro ps o moved p joined gives ready hu hq hf
    have hlen : ps.length = 8 + 2 * targets.length := length_enqueueParams i tag cap limit targets
    have hgives : ∀ q : Spout, ¬ s.unconfigured i → p.join o = q → gives q := fun q hc hjoin => by
      have hjoined : s.upd i (Spout.join (enqueueOrder ps)) = s.upd i fun _ => q :=
        upd_congr s i ((congrArg p.join (enqueueOrder_eq i tag cap limit targets h6)).trans hjoin)
      have hact : enqueueAct ps s = Act.only (s.upd i fun _ => q) (if moved then .okClamped else .ok)
          (.orderState tag.toNat (some i) true) := by
        refine (enqueueAct_taken h1 h6 htag hc hu hq hf).trans ?_
        rw [Status.clampedIf, if_congr (enqueueClamped_iff i tag cap limit targets h6) rfl rfl]
        exact congrArg (Act.only · _ _) hjoined
      exact ⟨fun hm => answers_of rfl ht (by omega) (hact.trans (by rw [if_pos hm])) rfl,
        fun hm => answers_of rfl ht (by omega) (hact.trans (by rw [if_neg hm])) rfl⟩
    have hrunning : p.ctl.state ≠ .parked → ¬ s.unconfigured i := fun hst hc => hst hc.1
    refine ⟨fun he hst => ?_, fun he hst hc hw => ?_, fun he hst => ?_, fun he hst => ?_, fun st he hst hs hk => ?_,
      fun st he hst hs hk => ?_⟩
    · exact hgives _ (hrunning hst) (join_behind he)
    · exact hgives _ (fun hu => hu.2 (configured_iff.mp hc)) (join_parked he hst hw)
    · exact hgives _ (hrunning (by simp [hst])) (join_idle he hst)
    · exact hgives _ (hrunning (by simp [hst])) (join_faulted he hst)
    · exact hgives _ (hrunning (by simp [hst])) ((join_zeroing he hst).trans (readyWhileZeroing_makeup hs hk))
    · exact hgives _ (hrunning (by simp [hst])) ((join_zeroing he hst).trans (readyWhileZeroing_other hs hk))

/-- Settles O60: CANCEL by the order's place and the spout's state, and RESULTS by its checks. -/
theorem cancelAndResults : Obligations.CancelAndResults := by
  refine ⟨fun s h spout tag ps ht => ⟨fun hp hl => ?_, fun hs => ?_, fun i hi => ⟨fun hno => ?_, fun o rest hq hrest =>
    ⟨fun ho hr => ?_, fun ho => ⟨fun hst => ?_, fun hst => ?_, fun hst => ?_, fun hst => ?_⟩⟩⟩⟩,
    fun s h spout first count ps ht => ⟨fun hp hl => ?_, fun hs => ?_, fun i hi => ⟨fun hbad => ?_, fun hf h1 h8 => ?_⟩⟩⟩
  · exact answers_of rfl ht hp (cancelAct_badLength hl) rfl
  · exact answers_of rfl ht (by simp [be16]) (cancelAct_noSpout hs) rfl
  · subst hi
    exact answers_of rfl ht (by simp [be16]) (cancelAct_spout.trans (cancelSpout_noTag hno)) rfl
  · subst hi
    have hremoved := upd_congr s i (g := fun _ => _) (removeOrder_behind hq ho)
    exact answers_of rfl ht (by simp [be16]) (cancelAct_spout.trans ((cancelSpout_behind hq ho hr).trans (by rw [hremoved]))) rfl
  · subst hi
    exact answers_of rfl ht (by simp [be16])
      (cancelAct_spout.trans (cancelSpout_head_taken hq ho (cancelHead_ready hq ho hrest hst))) rfl
  · subst hi
    exact answers_of rfl ht (by simp [be16])
      (cancelAct_spout.trans (cancelSpout_head_taken hq ho (cancelHead_zeroing hq ho hrest hst))) rfl
  · subst hi
    exact answers_of rfl ht (by simp [be16])
      (cancelAct_spout.trans (cancelSpout_head_taken hq ho (cancelHead_faulted hq ho hrest hst))) rfl
  · subst hi
    exact answers_of rfl ht (by simp [be16])
      (cancelAct_spout.trans (cancelSpout_head_refused hq ho (cancelHead_of_open hst))) rfl
  · exact answers_of rfl ht hp (resultsAct_badLength hl) rfl
  · exact answers_of rfl ht (by simp) (resultsAct_noSpout hs) rfl
  · subst hi
    exact answers_of rfl ht (by simp) (resultsAct_spout.trans (if_pos hbad)) (by rw [newestNumber_eq]; rfl)
  · subst hi
    refine answers_of rfl ht (by simp) (resultsAct_spout.trans (if_neg (by omega))) ?_
    rw [resultsData_eq, newestNumber_eq, funext Result.bytes_eq]
    rfl

end Sys2Proof.Settled
end

section
/-! PROOFS. What a sample handed on does to every count, check by check (R20, R61, R84 to R113, R141, R154, R169). -/

set_option Elab.async false

namespace Sys2Proof.Machine

variable {s t : State} {i : SpoutId} {p : Spout} {sample : Option (Nat × HeadStatus)}

/-! ### The checks in their order -/

theorem upd_eq_self {f : Spout → Spout} (h : f (s.spout i) = s.spout i) : s.upd i f = s :=
  (upd_congr s i (g := fun p => p) h).trans (upd_id s i)

/-- R61: the duration after a sample. -/
theorem countDuration_eq (p : Spout) : p.countDuration = { p with ctl := { p.ctl with
    duration := if p.ctl.state.compartmentOpen then min 4294967295 (p.ctl.duration + 1) else p.ctl.duration } } := by
  unfold Spout.countDuration
  split <;> rfl

/-- R84, R87: the second check, on the cutoff or the tail. -/
def tailCheck (i : SpoutId) (t : State) : State :=
  if (t.spout i).ctl.state.gateOpen then cutoffTests i t
  else if (t.spout i).ctl.state = .tailing then t.upd i Spout.countTail
  else t

/-- R108: the third check, on the flood run. -/
def floodCheck (i : SpoutId) (t : State) : State := if (t.spout i).ctl.state.gateOpen then countFlood i t else t

/-- R154: the fifth check, on the air-lost run. -/
def airCheck (i : SpoutId) (t : State) : State := if (t.spout i).ctl.state.gateOpen then countAirLost i t else t

/-- R141: the sixth check, on the pressure wait. -/
def pressureCheck (i : SpoutId) (t : State) : State := if (t.spout i).ctl.state = .awaitAir then countPressureWait i t else t

theorem controllerSample_eq (i : SpoutId) (s : State) : controllerSample i s = countStuck i (pressureCheck i (airCheck i
    ((floodCheck i (tailCheck i (s.upd i Spout.countDuration))).upd i Spout.countPacing))) := rfl

/-- R48: a sample that brings no due point, or completes no step, counts toward the due point first. -/
theorem dueAndStep_of_not_both {stepping : Bool} (h : ¬ ((s.spout i).dueReached = true ∧ s.sampleCompletes i sample stepping = true)) :
    dueAndStep i sample stepping s = stepIf i sample stepping (countDue i s) := if_neg h

theorem dueAndStep_of_both {stepping : Bool} (hd : (s.spout i).dueReached = true) (hc : s.sampleCompletes i sample stepping = true) :
    dueAndStep i sample stepping s =
      if Config.dueFirst s.freeCount then stepIf i sample stepping (countDue i { s with freeCount := s.freeCount + 1 })
      else countDue i (stepIf i sample stepping { s with freeCount := s.freeCount + 1 }) := if_pos ⟨hd, hc⟩

theorem sampleCompletes_iff {o : Option ZeroStep} : s.sampleCompletes i sample o.isSome = true ↔
    o ≠ none ∧ ∃ raw hs, sample = some (raw, hs) ∧ s.completesStep i raw hs = true := by
  cases sample with
  | none => simp [State.sampleCompletes]
  | some x =>
    obtain ⟨raw, hs⟩ := x
    simp [State.sampleCompletes, Option.isSome_iff_ne_none]

theorem stepIf_eq {o : Option ZeroStep} : stepIf i sample o.isSome t =
    if o ≠ none ∧ (t.spout i).zero.step ≠ none then stepSample i sample t else t := by
  simp only [stepIf, Option.isSome_iff_ne_none]

theorem retryIf_eq {o : Option Nat} : retryIf i o.isSome t =
    if o ≠ none ∧ (t.spout i).zero.retryWait ≠ none then countRetry i t else t := by
  simp only [retryIf, Option.isSome_iff_ne_none]

/-! ### Each check by itself -/

theorem countTail_of_settles (hst : p.ctl.state = .tailing) (h : p.settles) : p.countTail = (p.recordResult (.tail false)).moveOn := by
  rw [Spout.countTail, if_pos (settleReached_iff.mpr ⟨hst, h⟩), Spout.endTail]

theorem countTail_of_timeout (hst : p.ctl.state = .tailing) (h : ¬ p.settles) (ha : 3999 ≤ p.ctl.tailAge) :
    p.countTail = (p.recordResult (.tail true)).moveOn := by
  rw [Spout.countTail, if_neg fun hs => h (settleReached_iff.mp hs).2, if_pos (timeoutReached_iff.mpr ⟨hst, h, ha⟩), Spout.endTail]

theorem countTail_of_short (h : ¬ p.settles) (ha : p.ctl.tailAge < 3999) : p.countTail =
    { p with ctl := { p.ctl with
        tailAge := p.ctl.tailAge + 1
        settleRun := if p.chan.filtered < p.par.lowCut then p.ctl.settleRun + 1 else 0 } } := by
  rw [Spout.countTail, if_neg fun hs => h (settleReached_iff.mp hs).2,
    if_neg fun ht => absurd (timeoutReached_iff.mp ht).2.2 (Nat.not_le.mpr ha)]
  simp only [Spout.quiet, decide_eq_true_eq]

theorem countFlood_of_short (hc : p.ctl.state = .coarse → p.flooding = true → p.ctl.floodRun < 7)
    (hf : p.ctl.state = .fine → p.flooding = true → p.ctl.floodRun < 399) (hp : s.spout i = p) :
    countFlood i s = s.upd i Spout.tickFlood := by
  subst hp
  rw [countFlood, if_neg fun hd => ?_, if_neg fun hd => ?_]
  · obtain ⟨hst, hflood, hrun⟩ := floodClosureReached_iff.mp hd
    exact absurd hrun (Nat.not_le.mpr (hf hst hflood))
  · obtain ⟨hst, hflood, hrun⟩ := floodDropReached_iff.mp hd
    exact absurd hrun (Nat.not_le.mpr (hc hst hflood))

theorem countFlood_drop (hst : (s.spout i).ctl.state = .coarse) (hf : (s.spout i).flooding = true)
    (hr : 7 ≤ (s.spout i).ctl.floodRun) : countFlood i s = s.upd i Spout.floodDrop := by
  rw [countFlood, if_pos (floodDropReached_iff.mpr ⟨hst, hf, hr⟩)]

theorem countFlood_closure (hst : (s.spout i).ctl.state = .fine) (hf : (s.spout i).flooding = true)
    (hr : 399 ≤ (s.spout i).ctl.floodRun) : countFlood i s = floodClosure i s := by
  rw [countFlood, if_neg fun hd => by simp [(floodDropReached_iff.mp hd).1] at hst,
    if_pos (floodClosureReached_iff.mpr ⟨hst, hf, hr⟩)]

theorem countPacing_of_short (h : p.ctl.pacing < 7) : p.countPacing = { p with ctl := { p.ctl with pacing := p.ctl.pacing + 1 } } := by
  rw [Spout.countPacing, if_neg (mt pacingReached_iff.mp (Nat.not_le.mpr h))]

theorem countPacing_of_point (h : 7 ≤ p.ctl.pacing) : p.countPacing = p.pace := by
  rw [Spout.countPacing, if_pos (pacingReached_iff.mpr h)]

theorem airReached_iff : s.airReached i = true ↔
    ∃ e, s.roleLane i .air = some e ∧ (s.spout i).par.airThreshold ≤ e.latest ∧ e.stale = false := by
  cases h : s.roleLane i .air <;> simp [State.airReached, h]

theorem countAirLost_of_reached (h : s.airReached i = true) : countAirLost i s = s.upd i (Spout.tickAirLost false) := by
  rw [countAirLost, if_neg fun hl => by simp [(airLostReached_iff.mp hl).2.1] at h, h]
  rfl

theorem countAirLost_of_short (h : s.airReached i = false) (hr : (s.spout i).ctl.airLostRun < 199) :
    countAirLost i s = s.upd i (Spout.tickAirLost true) := by
  rw [countAirLost, if_neg fun hl => absurd (airLostReached_iff.mp hl).2.2 (Nat.not_le.mpr hr), h]
  rfl

theorem countAirLost_of_lost (h : s.airReached i = false) (ho : (s.spout i).ctl.state.gateOpen = true)
    (hr : 199 ≤ (s.spout i).ctl.airLostRun) : countAirLost i s = enterHeld .air i s := by
  rw [countAirLost, if_pos (airLostReached_iff.mpr ⟨ho, h, hr⟩)]

theorem countPressureWait_of_fail {n : Nat} (hst : (s.spout i).ctl.state = .awaitAir) (hw : (s.spout i).ctl.pressureWait = some n)
    (hn : 799 ≤ n) : countPressureWait i s = enterFault .airFail i s := by
  rw [countPressureWait, if_pos (airFailReached_iff.mpr ⟨hst, n, hw, hn⟩)]

theorem countPressureWait_of_short (h : ∀ n, (s.spout i).ctl.pressureWait = some n → n < 799) :
    countPressureWait i s = s.upd i Spout.tickPressure := by
  rw [countPressureWait, if_neg fun hf => ?_]
  obtain ⟨-, n, hn, hle⟩ := airFailReached_iff.mp hf
  exact absurd hle (Nat.not_le.mpr (h n hn))

theorem tickPressure_of_none (h : p.ctl.pressureWait = none) : p.tickPressure = p := by
  have hm : p.ctl.pressureWait.map (· + 1) = p.ctl.pressureWait := by rw [h]; rfl
  rw [Spout.tickPressure, hm]

theorem stuckExempt_mem {st : SpoutState} : st.stuckExempt = true ↔ st ∈ [SpoutState.parked, .coarse, .fine, .faulted] := by
  rw [stuckExempt_iff]
  simp

theorem gateStandsOpen_iff_not : s.gateStandsOpen i = true ↔
    ¬ ((s.spout i).ctl.state ∈ [SpoutState.parked, .coarse, .fine, .faulted] ∨ (s.gate i).1 ≤ 50) := by
  rw [gateStandsOpen_iff, not_or, ← stuckExempt_mem, Bool.not_eq_true, Nat.not_le]

theorem countStuck_of_shut
    (h : (s.spout i).ctl.state ∈ [SpoutState.parked, .coarse, .fine, .faulted] ∨ (s.gate i).1 ≤ 50) :
    countStuck i s = s.upd i (Spout.tickStuck false) := by
  have hshut : s.gateStandsOpen i = false := Bool.eq_false_iff.mpr fun ho => gateStandsOpen_iff_not.mp ho h
  rw [countStuck, if_neg (by simp [State.stuckReached, hshut]), hshut]

theorem countStuck_of_open
    (h : ¬ ((s.spout i).ctl.state ∈ [SpoutState.parked, .coarse, .fine, .faulted] ∨ (s.gate i).1 ≤ 50)) :
    countStuck i s =
      if 1199 ≤ (s.spout i).ctl.stuckRun then enterFault .gateStuck i s else s.upd i (Spout.tickStuck true) := by
  have hopen : s.gateStandsOpen i = true := gateStandsOpen_iff_not.mpr h
  rw [countStuck, hopen, State.stuckReached, hopen]
  simp only [Bool.true_and, decide_eq_true_eq, Nat.add_le_add_iff_right (n := 1), show 1200 = 1199 + 1 from rfl]

/-! ### The zero tracker's counts -/

theorem countDue_of_parked (h : (s.spout i).ctl.state = .parked) : countDue i s = s := by
  rw [countDue, if_neg fun hd => (dueReached_iff.mp hd).1 h, if_pos h]

theorem countDue_of_short (hp : (s.spout i).ctl.state ≠ .parked) (hd : (s.spout i).dueReached = false) :
    countDue i s = s.upd i Spout.tickDue := by
  rw [countDue, if_neg (by simp [hd]), if_neg hp]

theorem countDue_of_due (hd : (s.spout i).dueReached = true) : countDue i s = duePoint i s := by rw [countDue, if_pos hd]

theorem countRetry_of_long {n : Nat} (h : (s.spout i).zero.retryWait = some n) (hn : 1 < n) :
    countRetry i s = s.upd i Spout.tickRetry := by
  rw [countRetry, if_neg fun he => ?_]
  obtain ⟨m, hm, hle⟩ := retryEnds_iff.mp he
  rw [h] at hm
  cases hm
  omega

theorem countRetry_of_end {n : Nat} (h : (s.spout i).zero.retryWait = some n) (hn : n ≤ 1) :
    countRetry i s = s.upd i fun p => p.endRetry.examineZeroing := by
  rw [countRetry, if_pos (retryEnds_iff.mpr ⟨n, h, hn⟩), endRetryWait_eq]

section
variable {st : ZeroStep} (hst : (s.spout i).zero.step = some st)
include hst

/-- R41, R43: a sample that does not pass the step's test abandons the step. -/
theorem stepSample_of_fail (h : ∀ raw, sample = some (raw, .ok) → ¬ s.stepPasses i st raw .ok = true) :
    stepSample i sample s = abandonStep i s := by
  match sample with
  | none => simp only [stepSample, hst]
  | some (raw, hs) =>
    have hfail : ¬ s.stepPasses i st raw hs = true := fun hp => by
      have hok : hs = .ok := by simp [State.stepPasses] at hp; exact hp.1.1
      subst hok
      exact h raw rfl hp
    simp only [stepSample, hst]
    rw [if_neg fun hc => hfail ((completesStep_iff hst).mp hc).1, if_neg hfail]

theorem stepSample_of_short {raw : Nat} {hs : HeadStatus} (hp : s.stepPasses i st raw hs = true) (hl : st.taken + 1 < st.length) :
    stepSample i (some (raw, hs)) s = s.upd i (Spout.takeSample raw) := by
  simp only [stepSample, hst]
  rw [if_neg fun hc => absurd ((completesStep_iff hst).mp hc).2 (Nat.not_le.mpr hl), if_pos hp]

theorem stepSample_of_last {raw : Nat} {hs : HeadStatus} (hp : s.stepPasses i st raw hs = true) (hl : st.length ≤ st.taken + 1) :
    stepSample i (some (raw, hs)) s = completeStep i (s.upd i (Spout.takeSample raw)) := by
  simp only [stepSample, hst]
  rw [if_pos ((completesStep_iff hst).mpr ⟨hp, hl⟩)]

theorem upd_takeSample (raw : Nat) : s.upd i (Spout.takeSample raw) = s.upd i fun p =>
    { p with zero := { p.zero with step := some { st with taken := st.taken + 1, sum := st.sum + raw } } } :=
  upd_congr s i (by simp only [Spout.takeSample, hst]; rfl)

end

theorem countReport_eq (p : Spout) : p.countReport =
    if p.par.reportInterval ≤ p.reportCount + 1 then { p with reportCount := 0, reportDue := true }
    else { p with reportCount := p.reportCount + 1 } := by
  rw [Spout.countReport, if_congr reportReached_iff rfl rfl]
  rfl

theorem stepsPerSet_eq (c : Cadence) : c.stepsPerSet = match c with | .z1 => 1 | .z2 => 2 | .z4 => 4 := by cases c <;> rfl

end Sys2Proof.Machine
end

section
/-! PROOFS. A sample handed on that brings no condition about (R20): each check only counts, and the settled statement about the
counts. -/

set_option Elab.async false

namespace Sys2Proof.Machine

variable {s t : State} {i : SpoutId} {p : Spout} {sample : Option (Nat × HeadStatus)}

/-! ### The counts -/

/-- R61: the duration after a sample. -/
def Spout.afterDuration (p : Spout) : Spout := { p with ctl := { p.ctl with
  duration := if p.ctl.state.compartmentOpen then min 4294967295 (p.ctl.duration + 1) else p.ctl.duration } }

/-- R87, R88: the tail age and the settle run after a sample that does not end the tail. -/
def Spout.afterTail (p : Spout) : Spout := { p with ctl := { p.ctl with
  tailAge := if p.ctl.state = .tailing then p.ctl.tailAge + 1 else p.ctl.tailAge
  settleRun :=
    if p.ctl.state ≠ .tailing then p.ctl.settleRun
    else if p.chan.filtered < p.par.lowCut then p.ctl.settleRun + 1 else 0 } }

/-- R108: the flood run after a sample that brings no action. -/
def Spout.afterFlood (p : Spout) : Spout := { p with ctl := { p.ctl with
  floodRun :=
    if p.ctl.state.gateOpen = false then p.ctl.floodRun
    else if p.par.floodLimit ≠ 0 ∧ p.par.floodLimit < p.chan.filtered then p.ctl.floodRun + 1 else 0 } }

/-- R99: the pacing count after a sample, outside COARSE and FINE or short of the pacing point. -/
def Spout.afterPacing (p : Spout) : Spout :=
  { p with
    gatePending := p.gatePending || 7 ≤ p.ctl.pacing
    ctl := { p.ctl with pacing := if 7 ≤ p.ctl.pacing then 0 else p.ctl.pacing + 1 } }

/-- R154: the air-lost run after a sample that does not lose the air. -/
def Spout.afterAir (reached : Bool) (p : Spout) : Spout := { p with ctl := { p.ctl with
  airLostRun :=
    if p.ctl.state.gateOpen = false then p.ctl.airLostRun else if reached then 0 else p.ctl.airLostRun + 1 } }

/-- R141: the pressure wait after a sample that does not end it. -/
def Spout.afterPressure (p : Spout) : Spout := { p with ctl := { p.ctl with
  pressureWait := if p.ctl.state = .awaitAir then p.ctl.pressureWait.map fun n => n + 1 else p.ctl.pressureWait } }

/-- R112: the stuck-gate run after a sample that does not end it. -/
def Spout.afterStuck (gate : Nat) (p : Spout) : Spout := { p with ctl := { p.ctl with
  stuckRun := if p.ctl.state ∈ [.parked, .coarse, .fine, .faulted] ∨ gate ≤ 50 then 0 else p.ctl.stuckRun + 1 } }

/-- R38: the due counter after a sample that brings no due point. -/
def Spout.afterDue (p : Spout) : Spout := { p with zero := { p.zero with
  dueCount := if p.ctl.state = .parked then p.zero.dueCount else p.zero.dueCount + 1 } }

/-- R46: the retry wait after a sample that does not end it. -/
def Spout.afterRetry (p : Spout) : Spout := { p with zero := { p.zero with retryWait := p.zero.retryWait.map fun n => n - 1 } }

/-- R169: the report interval after a sample. -/
def Spout.afterReport (p : Spout) : Spout :=
  { p with
    reportDue := p.reportDue || p.par.reportInterval ≤ p.reportCount + 1
    reportCount := if p.par.reportInterval ≤ p.reportCount + 1 then 0 else p.reportCount + 1 }

/-! ### Each check that only counts -/

/-- R82, R83, R87, R88: the sample brings about neither the cutoff nor the fine band nor the tail's end. -/
def Spout.tailStays (p : Spout) : Prop :=
  (p.ctl.state.gateOpen = true → ¬ p.cutoffReached = true ∧ ¬ (p.ctl.state = .coarse ∧ p.inFineBand = true)) ∧
    (p.ctl.state = .tailing → ¬ p.settles ∧ p.ctl.tailAge < 3999)

theorem tailCheck_stays (h : (t.spout i).tailStays) : tailCheck i t = t.upd i Spout.afterTail := by
  obtain ⟨hcut, htail⟩ := h
  by_cases ho : (t.spout i).ctl.state.gateOpen = true
  · have hst : (t.spout i).ctl.state ≠ .tailing := fun hst => by simp [hst, SpoutState.gateOpen] at ho
    rw [tailCheck, if_pos ho, cutoffTests, if_neg (hcut ho).1, if_neg (hcut ho).2]
    exact (upd_eq_self (by simp only [Spout.afterTail, if_neg hst, if_pos hst])).symm
  · rw [tailCheck, if_neg ho]
    by_cases hst : (t.spout i).ctl.state = .tailing
    · rw [if_pos hst]
      refine upd_congr t i ?_
      rw [countTail_of_short (htail hst).1 (htail hst).2]
      simp only [Spout.afterTail, if_pos hst, if_neg (not_not.mpr hst)]
    · rw [if_neg hst]
      exact (upd_eq_self (by simp only [Spout.afterTail, if_neg hst, if_pos (by exact hst)])).symm

/-- R109, R110: the sample brings about no flood action. -/
def Spout.floodStays (p : Spout) : Prop := p.flooding = true →
  (p.ctl.state = .coarse → p.ctl.floodRun < 7) ∧ (p.ctl.state = .fine → p.ctl.floodRun < 399)

theorem floodCheck_stays (h : (t.spout i).floodStays) : floodCheck i t = t.upd i Spout.afterFlood := by
  by_cases ho : (t.spout i).ctl.state.gateOpen = true
  · rw [floodCheck, if_pos ho, countFlood_of_short (fun hc hf => (h hf).1 hc) (fun hc hf => (h hf).2 hc) rfl]
    refine upd_congr t i ?_
    rw [Spout.tickFlood, Spout.afterFlood, if_neg (show ¬ (t.spout i).ctl.state.gateOpen = false by simp [ho]),
      if_congr flooding_iff rfl rfl]
  · rw [floodCheck, if_neg ho]
    exact (upd_eq_self (by simp only [Spout.afterFlood, if_pos (Bool.eq_false_iff.mpr ho)])).symm

theorem countPacing_stays (h : p.ctl.state.gateOpen = true → p.ctl.pacing < 7) : p.countPacing = p.afterPacing := by
  by_cases hp : 7 ≤ p.ctl.pacing
  · have ho : p.ctl.state.gateOpen = false := Bool.eq_false_iff.mpr fun ho => absurd hp (Nat.not_le.mpr (h ho))
    rw [countPacing_of_point hp, pace_of_shut ho]
    simp [Spout.afterPacing, hp]
  · rw [countPacing_of_short (Nat.not_le.mp hp)]
    simp [Spout.afterPacing, hp]

theorem airCheck_stays (h : (t.spout i).ctl.state.gateOpen = true → t.airReached i = true ∨ (t.spout i).ctl.airLostRun < 199) :
    airCheck i t = t.upd i (Spout.afterAir (t.airReached i)) := by
  by_cases ho : (t.spout i).ctl.state.gateOpen = true
  · rw [airCheck, if_pos ho]
    by_cases hr : t.airReached i = true
    · rw [countAirLost_of_reached hr, hr]
      exact upd_congr t i (by simp [Spout.tickAirLost, Spout.afterAir, ho])
    · have hr' := Bool.eq_false_iff.mpr hr
      rw [countAirLost_of_short hr' ((h ho).resolve_left hr), hr']
      exact upd_congr t i (by simp [Spout.tickAirLost, Spout.afterAir, ho])
  · rw [airCheck, if_neg ho]
    exact (upd_eq_self (by simp only [Spout.afterAir, if_pos (Bool.eq_false_iff.mpr ho)])).symm

theorem pressureCheck_stays (h : (t.spout i).ctl.state = .awaitAir → ∀ n, (t.spout i).ctl.pressureWait = some n → n < 799) :
    pressureCheck i t = t.upd i Spout.afterPressure := by
  by_cases hst : (t.spout i).ctl.state = .awaitAir
  · rw [pressureCheck, if_pos hst, countPressureWait_of_short (h hst)]
    exact upd_congr t i (by rw [Spout.tickPressure, Spout.afterPressure, if_pos hst])
  · rw [pressureCheck, if_neg hst]
    exact (upd_eq_self (by simp only [Spout.afterPressure, if_neg hst])).symm

theorem countStuck_stays (h : (t.spout i).ctl.state ∈ [SpoutState.parked, .coarse, .fine, .faulted] ∨ (t.gate i).1 ≤ 50 ∨
    (t.spout i).ctl.stuckRun < 1199) : countStuck i t = t.upd i (Spout.afterStuck (t.gate i).1) := by
  by_cases hshut : (t.spout i).ctl.state ∈ [SpoutState.parked, .coarse, .fine, .faulted] ∨ (t.gate i).1 ≤ 50
  · rw [countStuck_of_shut hshut]
    exact upd_congr t i (by rw [Spout.tickStuck, Spout.afterStuck, if_pos hshut]; rfl)
  · have hrun : (t.spout i).ctl.stuckRun < 1199 := (or_assoc.mpr h).resolve_left hshut
    rw [countStuck_of_open hshut, if_neg (Nat.not_le.mpr hrun)]
    exact upd_congr t i (by rw [Spout.tickStuck, Spout.afterStuck, if_neg hshut]; rfl)

theorem countDue_stays (h : (t.spout i).dueReached = false) : countDue i t = t.upd i Spout.afterDue := by
  by_cases hp : (t.spout i).ctl.state = .parked
  · rw [countDue_of_parked hp]
    exact (upd_eq_self (by simp only [Spout.afterDue, if_pos hp])).symm
  · rw [countDue_of_short hp h]
    exact upd_congr t i (by rw [Spout.tickDue, Spout.afterDue, if_neg hp])

theorem retryIf_stays (h : ∀ n, (t.spout i).zero.retryWait = some n → 1 < n) :
    retryIf i (t.spout i).zero.retryWait.isSome t = t.upd i Spout.afterRetry := by
  cases hw : (t.spout i).zero.retryWait with
  | none =>
    rw [retryIf, if_neg (by simp)]
    have hm : (t.spout i).zero.retryWait.map (fun n => n - 1) = (t.spout i).zero.retryWait := by rw [hw]; rfl
    exact (upd_eq_self (by rw [Spout.afterRetry, hm])).symm
  | some n =>
    rw [retryIf, if_pos (by simp [hw]), countRetry_of_long hw (h n hw)]
    rfl

theorem countReport_after (p : Spout) : p.countReport = p.afterReport := by
  rw [countReport_eq]
  by_cases h : p.par.reportInterval ≤ p.reportCount + 1 <;> simp [Spout.afterReport, h]

/-! ### The whole of a sample that only counts -/

/-- R20: the sample brings no condition of the spout controller about. -/
def State.controllerStays (s : State) (i : SpoutId) : Prop :=
  (s.spout i).tailStays ∧ (s.spout i).floodStays ∧
    ((s.spout i).ctl.state.gateOpen = true →
      (s.spout i).ctl.pacing < 7 ∧ (s.airReached i = true ∨ (s.spout i).ctl.airLostRun < 199)) ∧
    ((s.spout i).ctl.state = .awaitAir → ∀ n, (s.spout i).ctl.pressureWait = some n → n < 799) ∧
    ((s.spout i).ctl.state ∈ [SpoutState.parked, .coarse, .fine, .faulted] ∨ (s.gate i).1 ≤ 50 ∨ (s.spout i).ctl.stuckRun < 1199)

/-- The spout after the first four checks of a sample that brings nothing about. -/
def Spout.afterTests (p : Spout) : Spout :=
  { p with
    gatePending := p.gatePending || 7 ≤ p.ctl.pacing
    ctl := { p.ctl with
      duration := if p.ctl.state.compartmentOpen then min 4294967295 (p.ctl.duration + 1) else p.ctl.duration
      tailAge := if p.ctl.state = .tailing then p.ctl.tailAge + 1 else p.ctl.tailAge
      settleRun :=
        if p.ctl.state ≠ .tailing then p.ctl.settleRun
        else if p.chan.filtered < p.par.lowCut then p.ctl.settleRun + 1 else 0
      floodRun :=
        if p.ctl.state.gateOpen = false then p.ctl.floodRun
        else if p.par.floodLimit ≠ 0 ∧ p.par.floodLimit < p.chan.filtered then p.ctl.floodRun + 1 else 0
      pacing := if 7 ≤ p.ctl.pacing then 0 else p.ctl.pacing + 1 } }

theorem afterTests_eq (p : Spout) : p.afterDuration.afterTail.afterFlood.afterPacing = p.afterTests := by
  simp only [Spout.afterTests, Spout.afterDuration, Spout.afterTail, Spout.afterFlood, Spout.afterPacing]
  rfl

/-- The spout after the last three checks of a sample that brings nothing about. -/
def Spout.afterWaits (reached : Bool) (gate : Nat) (p : Spout) : Spout := { p with ctl := { p.ctl with
  airLostRun := if p.ctl.state.gateOpen = false then p.ctl.airLostRun else if reached then 0 else p.ctl.airLostRun + 1
  pressureWait := if p.ctl.state = .awaitAir then p.ctl.pressureWait.map fun n => n + 1 else p.ctl.pressureWait
  stuckRun := if p.ctl.state ∈ [.parked, .coarse, .fine, .faulted] ∨ gate ≤ 50 then 0 else p.ctl.stuckRun + 1 } }

theorem afterWaits_eq (reached : Bool) (gate : Nat) (p : Spout) :
    ((p.afterAir reached).afterPressure).afterStuck gate = p.afterWaits reached gate := by
  simp only [Spout.afterWaits, Spout.afterAir, Spout.afterPressure, Spout.afterStuck]
  rfl

/-- The spout after a sample that brings nothing about in the spout controller. -/
def Spout.afterController (reached : Bool) (gate : Nat) (p : Spout) : Spout :=
  { p with
    gatePending := p.gatePending || 7 ≤ p.ctl.pacing
    ctl := { p.ctl with
      duration := if p.ctl.state.compartmentOpen then min 4294967295 (p.ctl.duration + 1) else p.ctl.duration
      pacing := if 7 ≤ p.ctl.pacing then 0 else p.ctl.pacing + 1
      floodRun :=
        if p.ctl.state.gateOpen = false then p.ctl.floodRun
        else if p.par.floodLimit ≠ 0 ∧ p.par.floodLimit < p.chan.filtered then p.ctl.floodRun + 1 else 0
      airLostRun :=
        if p.ctl.state.gateOpen = false then p.ctl.airLostRun else if reached then 0 else p.ctl.airLostRun + 1
      pressureWait := if p.ctl.state = .awaitAir then p.ctl.pressureWait.map fun n => n + 1 else p.ctl.pressureWait
      stuckRun := if p.ctl.state ∈ [.parked, .coarse, .fine, .faulted] ∨ gate ≤ 50 then 0 else p.ctl.stuckRun + 1
      tailAge := if p.ctl.state = .tailing then p.ctl.tailAge + 1 else p.ctl.tailAge
      settleRun :=
        if p.ctl.state ≠ .tailing then p.ctl.settleRun
        else if p.chan.filtered < p.par.lowCut then p.ctl.settleRun + 1 else 0 } }

theorem afterController_eq (reached : Bool) (gate : Nat) (p : Spout) :
    p.afterTests.afterWaits reached gate = p.afterController reached gate := rfl

theorem airReached_upd {f : Spout → Spout} (h : (f (s.spout i)).par = (s.spout i).par) :
    (s.upd i f).airReached i = s.airReached i := by
  simp only [State.airReached, upd_roleLane, spout_upd_same, h]

/-- The first four checks, one after another. -/
theorem tests_stay (h : s.controllerStays i) :
    (floodCheck i (tailCheck i (s.upd i Spout.countDuration))).upd i Spout.countPacing = s.upd i Spout.afterTests := by
  obtain ⟨htail, hflood, hopen, -, -⟩ := h
  have hdur : s.upd i Spout.countDuration = s.upd i Spout.afterDuration := upd_congr s i (countDuration_eq _)
  have h2 : tailCheck i (s.upd i Spout.afterDuration) = s.upd i fun p => p.afterDuration.afterTail := by
    rw [tailCheck_stays (by rw [spout_upd_same]; exact htail), upd_upd]
  have h3 : floodCheck i (s.upd i fun p => p.afterDuration.afterTail) = s.upd i fun p => p.afterDuration.afterTail.afterFlood := by
    rw [floodCheck_stays (by rw [spout_upd_same]; exact hflood), upd_upd]
  have h4 : (s.spout i).afterDuration.afterTail.afterFlood.countPacing = (s.spout i).afterTests :=
    (countPacing_stays (p := (s.spout i).afterDuration.afterTail.afterFlood) fun ho => (hopen ho).1).trans (afterTests_eq _)
  rw [hdur, h2, h3, upd_upd]
  exact upd_congr s i h4

/-- The last three checks, one after another. -/
theorem waits_stay (hair : (t.spout i).ctl.state.gateOpen = true → t.airReached i = true ∨ (t.spout i).ctl.airLostRun < 199)
    (hwait : (t.spout i).ctl.state = .awaitAir → ∀ n, (t.spout i).ctl.pressureWait = some n → n < 799)
    (hstuck : (t.spout i).ctl.state ∈ [SpoutState.parked, .coarse, .fine, .faulted] ∨ (t.gate i).1 ≤ 50 ∨
      (t.spout i).ctl.stuckRun < 1199) :
    countStuck i (pressureCheck i (airCheck i t)) = t.upd i (Spout.afterWaits (t.airReached i) (t.gate i).1) := by
  rw [airCheck_stays hair, pressureCheck_stays (by rw [spout_upd_same]; exact hwait), upd_upd,
    countStuck_stays (by rw [spout_upd_same]; exact hstuck), upd_upd]
  exact upd_congr t i (afterWaits_eq _ _ _)

theorem controllerSample_stays (h : s.controllerStays i) :
    controllerSample i s = s.upd i (Spout.afterController (s.airReached i) (s.gate i).1) := by
  have htests := tests_stay h
  obtain ⟨-, -, hopen, hair, hstuck⟩ := h
  have hreach : (s.upd i Spout.afterTests).airReached i = s.airReached i := airReached_upd rfl
  rw [controllerSample_eq, htests, waits_stay (by rw [spout_upd_same, hreach]; exact fun ho => (hopen ho).2)
    (by rw [spout_upd_same]; exact hair) (by rw [spout_upd_same]; exact hstuck), upd_upd, hreach]
  exact upd_congr s i (afterController_eq _ _ _)

/-- R20: what every sample that brings no condition about leaves, before its part in a zero step. -/
theorem countDue_controllerSample (h : s.controllerStays i) (hd : (s.spout i).dueReached = false) :
    countDue i (controllerSample i s) =
      s.upd i fun p => (p.afterController (s.airReached i) (s.gate i).1).afterDue := by
  rw [controllerSample_stays h, countDue_stays (by rw [spout_upd_same]; exact hd), upd_upd]

theorem dueAndStep_controllerSample {stepping : Bool} (h : s.controllerStays i) (hd : (s.spout i).dueReached = false) :
    dueAndStep i sample stepping (controllerSample i s) = stepIf i sample stepping
      (s.upd i fun p => (p.afterController (s.airReached i) (s.gate i).1).afterDue) := by
  have hdue : ((controllerSample i s).spout i).dueReached = false := by
    rw [controllerSample_stays h, spout_upd_same]
    exact hd
  rw [dueAndStep_of_not_both (by simp [hdue]), countDue_controllerSample h hd]

section
variable (h : s.controllerStays i) (hd : (s.spout i).dueReached = false)
include h hd

theorem handOn_stays (hw : ∀ n, (s.spout i).zero.retryWait = some n → 1 < n) (hs : (s.spout i).zero.step = none) :
    handOn i sample s = s.upd i fun p =>
      (p.afterController (s.airReached i) (s.gate i).1).afterDue.afterRetry.afterReport := by
  rw [handOn, zeroSample, dueAndStep_controllerSample h hd, stepIf, if_neg (by simp [hs])]
  have hwait : (s.spout i).zero.retryWait = ((s.upd i fun p =>
    (p.afterController (s.airReached i) (s.gate i).1).afterDue).spout i).zero.retryWait := by rw [spout_upd_same]; rfl
  rw [hwait, retryIf_stays (by rw [← hwait]; exact hw), upd_upd, upd_upd]
  exact upd_congr s i (countReport_after _)

theorem handOn_stays_step {st : ZeroStep} {raw : Nat} (hw : ∀ n, (s.spout i).zero.retryWait = some n → 1 < n)
    (hs : (s.spout i).zero.step = some st) (hpass : s.stepPasses i st raw .ok = true) (hlen : st.taken + 1 < st.length) :
    handOn i (some (raw, .ok)) s = s.upd i fun p =>
      ((p.afterController (s.airReached i) (s.gate i).1).afterDue.takeSample raw).afterRetry.afterReport := by
  have hstep : ((s.upd i fun p => (p.afterController (s.airReached i) (s.gate i).1).afterDue).spout i).zero.step = some st := by
    rw [spout_upd_same]
    exact hs
  rw [handOn, zeroSample, dueAndStep_controllerSample h hd, stepIf, if_pos ⟨by rw [hs]; rfl, by rw [hstep]; rfl⟩,
    stepSample_of_short hstep (by
      rw [stepPasses_ok_iff, spout_upd_same]
      exact stepPasses_ok_iff.mp hpass) hlen, upd_upd]
  have hwait : (s.spout i).zero.retryWait = ((s.upd i fun p =>
    (p.afterController (s.airReached i) (s.gate i).1).afterDue.takeSample raw).spout i).zero.retryWait := by
      rw [spout_upd_same]; rfl
  rw [hwait, retryIf_stays (by rw [← hwait]; exact hw), upd_upd, upd_upd]
  exact upd_congr s i (countReport_after _)

theorem handOn_stays_abandon {st : ZeroStep} (hw : (s.spout i).zero.retryWait = none) (hs : (s.spout i).zero.step = some st)
    (hfail : ∀ raw, sample = some (raw, .ok) → ¬ s.stepPasses i st raw .ok = true) :
    handOn i sample s = s.upd i fun p =>
      (p.afterController (s.airReached i) (s.gate i).1).afterDue.abandonStep.afterReport := by
  have hstep : ((s.upd i fun p => (p.afterController (s.airReached i) (s.gate i).1).afterDue).spout i).zero.step = some st := by
    rw [spout_upd_same]
    exact hs
  rw [handOn, zeroSample, dueAndStep_controllerSample h hd, stepIf, if_pos ⟨by rw [hs]; rfl, by rw [hstep]; rfl⟩,
    stepSample_of_fail hstep (fun raw he hp => hfail raw he (by
      rw [stepPasses_ok_iff, spout_upd_same] at hp
      exact stepPasses_ok_iff.mpr hp)), abandonStep, upd_upd, retryIf, if_neg (by simp [hw]), upd_upd]
  exact upd_congr s i (countReport_after _)

end

theorem takeSample_of_some {st : ZeroStep} {raw : Nat} (h : p.zero.step = some st) : p.takeSample raw =
    { p with zero := { p.zero with step := some { st with taken := st.taken + 1, sum := st.sum + raw } } } := by
  simp only [Spout.takeSample, h]
  rfl

/-- R43: the record of a spout whose step in progress has been abandoned. -/
theorem abandonStep_of_some {st : ZeroStep} (h : p.zero.step = some st) : p.abandonStep =
    { p with
      reportDue := true
      ctl := { p.ctl with state := match st.origin with | .idle => .idle | .ready => .ready }
      zero := { p.zero with step := none, retryWait := some 400 } } := by
  simp only [Spout.abandonStep, h, endStep_of_some h, Spout.returned]
  cases st.origin <;> rfl

theorem cutoffReached_iff {c : OpenCompartment} (hc : p.ctl.openComp = some c) : p.cutoffReached = true ↔
    c.targetKg * 1000 ≤ p.chan.massG + p.chan.filtered * p.ctl.tau / 40 := by
  simp [Spout.cutoffReached, Spout.targetG, hc, Spout.tailG]

theorem inFineBand_iff {c : OpenCompartment} (hc : p.ctl.openComp = some c) : p.inFineBand = true ↔
    c.targetKg * 1000 - (p.chan.massG + p.chan.filtered * p.ctl.tau / 40) ≤ p.par.fineBand * 1000 := by
  simp [Spout.inFineBand, Spout.targetG, hc, Spout.tailG]

end Sys2Proof.Machine

namespace Sys2Proof.Settled

open Sys2Proof.Machine

/-- Settles O34: the checks in their order, each check by itself, and a sample that brings nothing about. -/
theorem sampleCounts : Obligations.SampleCounts := by
  refine ⟨fun s i sample => ?_, fun s i => ?_, fun s i => ?_, fun s i sample => ?_⟩
  · intro opens s0 s1 s2 s3 s4 s5 s6 step last completes due u
    have h0 : s.upd i Spout.countDuration = s0 := upd_congr s i (countDuration_eq _)
    have h1 : tailCheck i s0 = s1 := if_congr gateOpen_iff rfl rfl
    have h2 : floodCheck i s1 = s2 := if_congr gateOpen_iff rfl rfl
    have h4 : airCheck i s3 = s4 := if_congr gateOpen_iff rfl rfl
    have h6 : controllerSample i s = s6 := by
      rw [controllerSample_eq, h0, h1, h2]
      exact congrArg (fun t => countStuck i (pressureCheck i t)) h4
    have hlast : ∀ t, (retryIf i (s.spout i).zero.retryWait.isSome t).upd i Spout.countReport = last t := fun t => by rw [retryIf_eq]
    have hstep : stepIf i sample (s.spout i).zero.step.isSome = step := funext fun t => stepIf_eq
    refine ⟨fun hno => ?_, fun hd hc => ?_⟩ <;> rw [handOn, zeroSample, h6, hlast, ← hstep]
    · rw [dueAndStep_of_not_both (mt (And.imp_right sampleCompletes_iff.mp) hno)]
    · rw [dueAndStep_of_both hd (sampleCompletes_iff.mpr hc)]
  · intro p settles flooding paced runs
    have hflood : p.flooding = true ↔ flooding := flooding_iff
    refine ⟨fun hst => ⟨countTail_of_settles hst, countTail_of_timeout hst, countTail_of_short⟩, fun hst hf hr => ?_,
      fun hst hf hr => ?_, fun hf hc hn => ?_, fun hf => ?_, countPacing_of_short, fun hr => ⟨fun ho => ?_, fun o rest hq hst => ?_,
      fun hst => ?_⟩, airReached_iff, fun h => ?_, fun h hr => ?_, countAirLost_of_lost, fun n hst hw =>
      ⟨countPressureWait_of_fail hst hw, fun hn => ?_⟩, fun hw => ?_, fun h => ?_, fun hst ho => ⟨fun hr => ?_, fun hr => ?_⟩⟩
    · rw [countFlood_drop hst (hflood.mpr hf) hr]
      exact upd_congr s i rfl
    · rw [countFlood_closure hst (hflood.mpr hf) hr]
      rfl
    · rw [countFlood_of_short (fun h _ => hc h) (fun h _ => hn h) rfl]
      exact upd_congr s i (by rw [Spout.tickFlood, if_pos (hflood.mpr hf)])
    · rw [countFlood_of_short (fun _ h => absurd (hflood.mp h) hf) (fun _ h => absurd (hflood.mp h) hf) rfl]
      exact upd_congr s i (by rw [Spout.tickFlood, if_neg (mt hflood.mp hf)])
    · rw [countPacing_of_point hr, pace_of_shut ho]
    · rw [countPacing_of_point hr, pace_coarse hst hq]
      cases o.flowLimit <;> rfl
    · rw [countPacing_of_point hr, pace_fine hst]
      rfl
    · rw [countAirLost_of_reached h]
      rfl
    · rw [countAirLost_of_short h hr]
      rfl
    · rw [countPressureWait_of_short fun m hm => by rw [hw] at hm; cases hm; exact hn]
      exact upd_congr s i (by rw [Spout.tickPressure, hw]; rfl)
    · rw [countPressureWait_of_short fun m hm => by rw [hw] at hm; cases hm]
      exact upd_eq_self (tickPressure_of_none hw)
    · rw [countStuck_of_shut h]
      rfl
    · rw [countStuck_of_open (not_or.mpr ⟨hst, Nat.not_le.mpr ho⟩), if_neg (Nat.not_le.mpr hr)]
      rfl
    · rw [countStuck_of_open (not_or.mpr ⟨hst, Nat.not_le.mpr ho⟩), if_pos hr]
  · intro p steps owing
    refine ⟨?_, countDue_of_parked, countDue_of_short, fun hd ho => ?_, fun hd ho => ?_, fun n hw => ⟨fun hn => ?_, fun hn => ?_⟩,
      fun st hs => ⟨fun sample hno => ?_, fun raw hp => ⟨fun hl => ?_, fun hl => ⟨?_, ?_⟩⟩⟩, countReport_eq p⟩
    · rw [dueReached_iff, Spout.duePeriod, stepsPerSet_eq] <;> rfl
    · rw [countDue_of_due hd, duePoint_of_ne_seven ho]
      exact upd_congr s i rfl
    · rw [countDue_of_due hd, duePoint_of_seven ho]
      rfl
    · rw [countRetry_of_long hw hn]
      exact upd_congr s i (by rw [Spout.tickRetry, hw]; rfl)
    · rw [countRetry_of_end hw hn]
      exact upd_congr s i rfl
    · exact stepSample_of_fail hs fun raw he => mt stepPasses_ok_iff.mp (hno raw he)
    · rw [stepSample_of_short hs (stepPasses_ok_iff.mpr hp) hl, upd_takeSample hs]
    · rw [stepSample_of_last hs (stepPasses_ok_iff.mpr hp) hl, upd_takeSample hs]
    · have hdone : s.completesStep i raw.toNat .ok = true := (completesStep_iff hs).mpr ⟨stepPasses_ok_iff.mpr hp, hl⟩
      refine (finish_of_pos hdone).trans ?_
      rw [upd_takeSample hs]
  · intro p steps settles hopen hflood hair hstuck htail hdue hwait counted passes
    have hstays : s.controllerStays i := by
      refine ⟨⟨fun ho => ?_, htail⟩, fun hf => ?_, fun ho => ⟨(hopen ho).1, (hopen ho).2.1⟩, hair, hstuck⟩
      · obtain ⟨-, -, c, hc, hcut, hband⟩ := hopen ho
        rw [cutoffReached_iff hc, inFineBand_iff hc]
        exact ⟨Nat.not_le.mpr hcut, fun ⟨hst, hle⟩ => absurd hle (Nat.not_le.mpr (hband hst))⟩
      · obtain ⟨hoff, hlt⟩ := flooding_iff.mp hf
        exact hflood hoff hlt
    have hd : (s.spout i).dueReached = false := by
      refine Bool.eq_false_iff.mpr fun hd => ?_
      obtain ⟨hp, hle⟩ := dueReached_iff.mp hd
      rw [Spout.duePeriod, stepsPerSet_eq] at hle
      exact absurd hle (Nat.not_le.mpr (hdue.resolve_left hp))
    refine ⟨fun hs => ?_, fun st raw hs he hp hl => ?_, fun st hs hst hw hno => ?_⟩
    · rw [handOn_stays hstays hd hwait hs]
      exact upd_congr s i rfl
    · subst he
      rw [handOn_stays_step hstays hd hwait hs (stepPasses_ok_iff.mpr hp) hl]
      exact upd_congr s i (by rw [takeSample_of_some (by exact hs)]; rfl)
    · rw [handOn_stays_abandon hstays hd hw hs fun raw he => mt stepPasses_ok_iff.mp (hno raw he)]
      refine upd_congr s i ?_
      rw [abandonStep_of_some (by exact hs)]
      rfl

end Sys2Proof.Settled
end

section
/-! PROOFS. A frame on a FORCE lane, from raw counts to the sample handed on (R3 to R8, R11 to R20), and the settled statements
about it. -/

set_option Elab.async false

namespace Sys2Proof.Machine

variable {s : State} {i : SpoutId} {p : Spout} {l : LaneId} {e : Lane} {seq : Byte} {hs : HeadStatus}

/-! ### The frame -/

/-- R172: the bytes of a SAMPLE frame before its CRC. -/
def sampleBytes (l : LaneId) (seq : Byte) (hs : HeadStatus) (raw : BitVec 20) : List Byte :=
  [0x10, byte l.val, seq, byte ((if hs = .clipped then 64 else 0) + raw.toNat / 65536), byte (raw.toNat / 256), byte raw.toNat]

theorem sampleFrame_value (l : LaneId) (seq : Byte) (hs : HeadStatus) (raw : BitVec 20) :
    sampleValue (sealFrame (sampleBytes l seq hs raw)) = raw.toNat := by
  have hraw := raw.isLt
  show (byte ((if hs = .clipped then 64 else 0) + raw.toNat / 65536)).toNat % 16 * 65536 +
    ((byte (raw.toNat / 256)).toNat * 256 + (byte raw.toNat).toNat) = raw.toNat
  simp only [byte, BitVec.toNat_ofNat]
  split <;> omega

theorem sampleFrame_status (l : LaneId) (seq : Byte) (h : hs ≠ .headFault) (raw : BitVec 20) :
    headStatusOf ((sealFrame (sampleBytes l seq hs raw)).getD 3 0) = hs := by
  have hraw := raw.isLt
  have hbits : (byte ((if hs = .clipped then 64 else 0) + raw.toNat / 65536)).toNat / 64 = if hs = .clipped then 1 else 0 := by
    simp only [byte, BitVec.toNat_ofNat]
    split <;> omega
  show headStatusOf (byte ((if hs = .clipped then 64 else 0) + raw.toNat / 65536)) = hs
  rw [headStatusOf, hbits]
  cases hs with
  | headFault => exact absurd rfl h
  | ok | clipped => rfl

/-- R146: a good SAMPLE frame on a FORCE lane reaches its spout's metering channel. -/
theorem fPortRun_forceSample {raw : BitVec 20} (he : s.lane l = some e) (hr : e.role = .force) (h : hs ≠ .headFault) :
    fPortRun (sealFrame (sampleBytes l seq hs raw)) s = deliverForce l e.spout seq hs raw.toNat
      (forwardCopy e (sealFrame (sampleBytes l seq hs raw)) s) := by
  have hlane : l.val = byteAt (sealFrame (sampleBytes l seq hs raw)) 1 := by
    have hl := l.isLt
    show l.val = (byte l.val).toNat
    rw [byte, BitVec.toNat_ofNat]
    omega
  have hcrc := goodCrc_iff.mp (goodCrc_sealFrame (sampleBytes l seq hs raw))
  rw [fPortRun_of_routed ⟨by simp [sealFrame, sampleBytes], by simp [sealFrame, sampleBytes]⟩ rfl hlane he,
    routeSample_of_good rfl hcrc, actOnSample_of_force hr, sampleFrame_value, sampleFrame_status _ _ h]
  rfl

/-! ### The sequence -/

theorem seqDistance_of_next (h : (s.spout i).chan.lastSeq = some (seq - 1) ∨ (s.spout i).chan.lastSeq = none) :
    seqDistance (s.spout i).chan.lastSeq seq = 1 := by
  rcases h with h | h
  · rw [h, seqDistance, sub_sub_cancel]
    rfl
  · rw [h, seqDistance]

/-- R3: what an accepted frame leaves before its samples are taken. -/
def acceptedForce (l : LaneId) (i : SpoutId) (seq : Byte) (s : State) : State :=
  (s.updLane l Lane.refresh).upd i (Spout.acceptForce seq)

theorem deliverForce_duplicate {v : Nat} (h : (s.spout i).chan.lastSeq = some seq) :
    deliverForce l i seq hs v s = s.updLane l Lane.countDup := by
  rw [deliverForce]
  exact if_pos (seqDistance_eq_zero.mpr h)

theorem deliverForce_good {v : Nat} (h : (s.spout i).chan.lastSeq ≠ some seq) (hh : hs ≠ .headFault) :
    deliverForce l i seq hs v s = goodSample i v hs
      (missingSamples l i (seqDistance (s.spout i).chan.lastSeq seq - 1) (acceptedForce l i seq s)) := by
  rw [deliverForce]
  refine (if_neg (mt seqDistance_eq_zero.mp h)).trans ?_
  cases hs with
  | headFault => exact absurd rfl hh
  | ok | clipped => rfl

theorem deliverForce_fault {v : Nat} (h : (s.spout i).chan.lastSeq ≠ some seq) :
    deliverForce l i seq .headFault v s = missingSample l i
      (missingSamples l i (seqDistance (s.spout i).chan.lastSeq seq - 1) (acceptedForce l i seq s)) := by
  rw [deliverForce]
  exact if_neg (mt seqDistance_eq_zero.mp h)

/-- R5: the missing samples one at a time, the last by itself. -/
theorem missingSamples_succ (n : Nat) (s : State) :
    missingSamples l i (n + 1) s = missingSample l i (missingSamples l i n s) := by
  induction n generalizing s with
  | zero => rfl
  | succ n ih => exact ih (missingSample l i s)

theorem missingSamples_of_gap {last : Byte} (hne : last ≠ seq) (s : State) :
    missingSample l i (missingSamples l i (seqDistance (some last) seq - 1) s) = missingSamples l i (seq - last).toNat s := by
  have hd : seqDistance (some last) seq ≠ 0 := mt seqDistance_eq_zero.mp fun h => hne (Option.some.inj h)
  rw [← missingSamples_succ, Nat.sub_add_cancel (by omega)]
  rfl

/-! ### From raw counts to flow -/

theorem lowFlowCut_eq (st : SpoutState) (cut x : Nat) :
    lowFlowCut st cut x = if st = .coarse ∨ st = .fine ∨ cut ≤ x then x else 0 := by
  rw [lowFlowCut, if_congr (gateOpen_iff (st := st)) rfl rfl]
  by_cases ho : st = .coarse ∨ st = .fine
  · rw [if_pos ho, if_pos (or_assoc.mp (.inl ho))]
  · rw [if_neg ho, if_congr (or_assoc.symm.trans (or_iff_right ho)) rfl rfl]

/-- R11 to R15: the unfiltered flow of a net force. -/
theorem flowOf_eq {raw n : Nat} (hn : netForce raw p.zero.zero = n) : p.flowOf raw =
    let f := fun k => (p.curve.points p.curve.selected).getD k 0
    let k := n / 16384
    let q := f k + ((f (k + 1) - f k) * (n - 16384 * k) + 8192) / 16384
    let trimmed := min 20000 ((q * p.par.span + 2048) / 4096)
    if p.ctl.state = .coarse ∨ p.ctl.state = .fine ∨ p.par.lowCut ≤ trimmed then trimmed else 0 := by
  have hmod : n % 16384 = n - 16384 * (n / 16384) := Nat.mod_eq_sub_mul_div
  simp only [Spout.flowOf, hn, curveFlow, hmod, spanTrim, lowFlowCut_eq]

theorem netForce_of_within {raw zero : Nat} (h : raw - zero ≤ 262143) : netForce raw zero = raw - zero := min_eq_right h

/-! ### The overrange mark -/

theorem overrangeDetail_eq (raw zero : Nat) (hs : HeadStatus) :
    overrangeDetail (262143 < grossNet raw zero) (hs == .clipped) =
      (if zero + 262143 < raw then 1 else 0) + if hs = .clipped then 2 else 0 := by
  have h : 262143 < grossNet raw zero ↔ zero + 262143 < raw := by rw [grossNet]; omega
  simp [overrangeDetail, h]

theorem watchRange_quiet_open {raw : Nat} (h : ¬ (p.zero.zero + 262143 < raw ∨ hs = .clipped))
    (ho : p.ctl.state.compartmentOpen = true) : p.watchRange raw hs = p := by
  obtain ⟨habove, hclip⟩ := not_or.mp h
  simp only [Spout.watchRange, overrangeDetail_eq, if_neg habove, if_neg hclip, if_pos ho]
  rfl

theorem watchRange_quiet_shut {raw : Nat} (h : ¬ (p.zero.zero + 262143 < raw ∨ hs = .clipped))
    (ho : p.ctl.state.compartmentOpen = false) : p.watchRange raw hs = { p with chan := { p.chan with overrange := false } } := by
  obtain ⟨habove, hclip⟩ := not_or.mp h
  have ho' : ¬ p.ctl.state.compartmentOpen = true := by simp [ho]
  simp only [Spout.watchRange, overrangeDetail_eq, if_neg habove, if_neg hclip, if_neg ho']
  rfl

theorem detail_ne_zero {raw : Nat} (h : p.zero.zero + 262143 < raw ∨ hs = .clipped) :
    ¬ (if p.zero.zero + 262143 < raw then 1 else 0) + (if hs = .clipped then 2 else 0) = 0 := by
  rcases h with h | h <;> simp [h]

theorem watchRange_marked {raw : Nat} (h : p.zero.zero + 262143 < raw ∨ hs = .clipped) (hm : p.chan.overrange = true) :
    p.watchRange raw hs = p := by
  simp only [Spout.watchRange, overrangeDetail_eq, if_neg (detail_ne_zero h), if_pos hm]

theorem watchRange_clear {raw : Nat} (h : p.zero.zero + 262143 < raw ∨ hs = .clipped) (hm : p.chan.overrange = false) :
    p.watchRange raw hs =
      { p with
        chan := { p.chan with overrange := true }
        alerts := p.alerts.set 0 (p.alerts[0].occur
          ((if p.zero.zero + 262143 < raw then 1 else 0) + (if hs = .clipped then 2 else 0))) } := by
  simp only [Spout.watchRange, overrangeDetail_eq, if_neg (detail_ne_zero h), hm]
  rfl

/-- R12: a CLIPPED sample, or one above the limit, leaves the mark set; it raises FORCE_OVERRANGE if the mark was clear. -/
theorem watchRange_loud {raw : Nat} (h : p.zero.zero + 262143 < raw ∨ hs = .clipped) : p.watchRange raw hs =
    { p with
      alerts := if p.chan.overrange then p.alerts else p.alerts.set 0 (p.alerts[0].occur
        ((if p.zero.zero + 262143 < raw then 1 else 0) + (if hs = .clipped then 2 else 0)))
      chan := { p.chan with overrange := true } } := by
  cases hm : p.chan.overrange with
  | false => rw [watchRange_clear h hm]; rfl
  | true =>
    have hmarked : ({ p.chan with overrange := true } : Channel) = p.chan := by rw [← hm]
    rw [watchRange_marked h hm, hmarked, if_pos rfl]

/-! ### The window and the accumulator -/

theorem integrate_of_le {c : Channel} {u : Nat} (h : c.acc + u ≤ 4294967295) :
    c.integrate u = { c with acc := c.acc + u, massG := (c.acc + u) / 40 } := if_neg (Nat.not_lt.mpr h)

theorem integrate_of_gt {c : Channel} {u : Nat} (h : 4294967295 < c.acc + u) :
    c.integrate u = { c with acc := 4294967295, massG := 107374182, satMark := true } := if_pos h

theorem meter_shut {u : Nat} (h : p.ctl.state.compartmentOpen = false) : p.meter u = { p with chan := p.chan.enterWindow u } := by
  simp [Spout.meter, h]

theorem meter_open {u : Nat} (h : p.ctl.state.compartmentOpen = true) :
    p.meter u = { p with chan := (p.chan.enterWindow u).integrate u } := by
  simp only [Spout.meter, if_pos h]

/-- R8, R16, R18: the spout after the first half of a good sample, once the overrange mark and its alert are known. -/
theorem workGood_of_watch {raw : Nat} {a : Vector AlertMark 9} {m : Bool}
    (h : p.watchRange raw hs = { p with alerts := a, chan := { p.chan with overrange := m } }) : p.workGood raw hs =
      ({ p with alerts := a, chan := { p.chan with overrange := m, missingRun := 0, lastGood := p.flowOf raw } } : Spout).meter
        (p.flowOf raw) := by
  simp only [Spout.workGood, h]

/-! ### A good sample -/

/-- R146: the copy toward the plant leaves the lanes and the spouts. -/
theorem forwardCopy_leaves (run : Run) (s : State) :
    (forwardCopy e run s).spout i = s.spout i ∧ (forwardCopy e run s).lane l = s.lane l := by
  unfold forwardCopy passToPlant
  split
  · split <;> exact ⟨rfl, rfl⟩
  · exact ⟨rfl, rfl⟩

/-- R3, R4, R8: a good frame that follows its predecessor is handed on once its spout's record is worked. -/
theorem exec_forceSample {raw : BitVec 20} {g : Spout → Spout} (he : s.lane l = some e) (hr : e.role = .force)
    (hseq : (s.spout e.spout).chan.lastSeq = some (seq - 1) ∨ (s.spout e.spout).chan.lastSeq = none) (h : hs ≠ .headFault)
    (hg : ((s.spout e.spout).acceptForce seq).workGood raw.toNat hs = g (s.spout e.spout)) :
    exec (.fPortFrame (sealFrame (sampleBytes l seq hs raw))) s = .next (serveLines (handOn e.spout (some (raw.toNat, hs))
      (((if e.forward then passToPlant (sealFrame (sampleBytes l seq hs raw)) s else s).setLane l
        (some { e with age := 0, stale := false })).upd e.spout g))) := by
  obtain ⟨hspout, hlane⟩ := forwardCopy_leaves (e := e) (i := e.spout) (l := l) (sealFrame (sampleBytes l seq hs raw)) s
  have hd := seqDistance_of_next (i := e.spout) (seq := seq)
    (s := forwardCopy e (sealFrame (sampleBytes l seq hs raw)) s) (by rw [hspout]; exact hseq)
  have hne : ((forwardCopy e (sealFrame (sampleBytes l seq hs raw)) s).spout e.spout).chan.lastSeq ≠ some seq := fun hx => by
    rw [seqDistance_eq_zero.mpr hx] at hd
    cases hd
  rw [exec_fPortFrame, fPortRun_forceSample he hr h, deliverForce_good hne h, hd]
  refine congrArg (fun u => Host.Outcome.next (serveLines (handOn e.spout (some (raw.toNat, hs)) u))) ?_
  refine (upd_upd _ _ _ _).trans ?_
  rw [updLane_of_some (hlane.trans he)]
  refine upd_congr _ _ ?_
  rw [setLane_spout, hspout]
  exact hg

section
variable {raw u : Nat} {a : Vector AlertMark 9} {m : Bool}
  (h : p.watchRange raw hs = { p with alerts := a, chan := { p.chan with overrange := m } }) (hu : p.flowOf raw = u)
include h hu

theorem workGood_shut (ho : p.ctl.state.compartmentOpen = false) : p.workGood raw hs =
    { p with
      alerts := a
      chan := { p.chan with
        missingRun := 0, lastGood := u, window := p.chan.window.drop 1 ++ [u]
        filtered := (p.chan.window.drop 1 ++ [u]).sum / 8, overrange := m } } := by
  rw [workGood_of_watch h, meter_shut (by exact ho), hu]
  rfl

theorem workGood_open (ho : p.ctl.state.compartmentOpen = true) (hacc : p.chan.acc + u ≤ 4294967295) : p.workGood raw hs =
    { p with
      alerts := a
      chan := { p.chan with
        missingRun := 0, lastGood := u, window := p.chan.window.drop 1 ++ [u]
        filtered := (p.chan.window.drop 1 ++ [u]).sum / 8, overrange := m
        acc := p.chan.acc + u, massG := (p.chan.acc + u) / 40 } } := by
  rw [workGood_of_watch h, meter_open (by exact ho), hu, integrate_of_le (by exact hacc)]
  rfl

theorem workGood_saturated (ho : p.ctl.state.compartmentOpen = true) (hacc : 4294967295 < p.chan.acc + u) : p.workGood raw hs =
    { p with
      alerts := a
      chan := { p.chan with
        missingRun := 0, lastGood := u, window := p.chan.window.drop 1 ++ [u]
        filtered := (p.chan.window.drop 1 ++ [u]).sum / 8, overrange := m
        acc := 4294967295, massG := 107374182, satMark := true } } := by
  rw [workGood_of_watch h, meter_open (by exact ho), hu, integrate_of_gt (by exact hacc)]
  rfl

end

end Sys2Proof.Machine

namespace Sys2Proof.Settled

open Sys2Proof.Machine

/-- Settles O32: the overrange mark, the flow, the window and the accumulator, one after another. -/
theorem goodForceSample : Obligations.GoodForceSample := by
  refine ⟨fun s l e seq raw => ?_, fun s l e seq raw hs => ?_, fun p raw hs => ?_⟩
  · intro p bytes run n f k q trimmed u window acc fresh metered he hr hseq hn
    have hrun : run = sealFrame (sampleBytes l seq .ok raw) := by simp [run, bytes, sealFrame, sampleBytes]
    have hquiet : ¬ ((p.acceptForce seq).zero.zero + 262143 < raw.toNat ∨ HeadStatus.ok = .clipped) := by
      have hle : raw.toNat - p.zero.zero ≤ 262143 := hn
      rintro (habove | hclip)
      · exact absurd (show p.zero.zero + 262143 < raw.toNat from habove) (by omega)
      · cases hclip
    have hu : (p.acceptForce seq).flowOf raw.toNat = u := flowOf_eq (netForce_of_within hn)
    have hexec : ∀ {g : Spout → Spout}, (p.acceptForce seq).workGood raw.toNat .ok = g p → exec (.fPortFrame run) s =
        .next (serveLines (handOn e.spout (some (raw.toNat, .ok)) (fresh.upd e.spout g))) := fun hg => by
      simp only [fresh, hrun]
      exact exec_forceSample he hr hseq (by decide) hg
    refine ⟨fun ho hacc => hexec ?_, fun ho hacc => hexec ?_, fun ho => hexec ?_⟩
    · exact workGood_open (a := p.alerts) (m := p.chan.overrange) (watchRange_quiet_open hquiet ho) hu ho hacc
    · exact workGood_saturated (a := p.alerts) (m := p.chan.overrange) (watchRange_quiet_open hquiet ho) hu ho hacc
    · exact workGood_shut (a := p.alerts) (m := false) (watchRange_quiet_shut hquiet ho) hu ho
  · intro p bytes run above n f k q trimmed u window acc fresh detail alerts metered gives he hr hseq hh hloud
    have hu : (p.acceptForce seq).flowOf raw.toNat = u := flowOf_eq (n := n) rfl
    have hwatch := watchRange_loud (p := p.acceptForce seq) hloud
    refine ⟨fun ho hacc => ?_, fun ho hacc => ?_, fun ho => ?_⟩ <;> refine exec_forceSample he hr hseq hh ?_
    · exact workGood_open (p := p.acceptForce seq) hwatch hu ho hacc
    · exact workGood_saturated (p := p.acceptForce seq) hwatch hu ho hacc
    · exact workGood_shut (p := p.acceptForce seq) hwatch hu ho
  · intro above clipped detail
    refine ⟨watchRange_clear, watchRange_marked, watchRange_quiet_open, watchRange_quiet_shut, fun ha => ?_⟩
    have hlt : p.zero.zero + 262143 < raw := ha
    exact min_eq_left (by rw [grossNet]; omega)

end Sys2Proof.Settled
end

section
/-! PROOFS. Missing samples (R5 to R7), and what a cutoff leaves behind whatever the later checks do (R82 to R86). -/

set_option Elab.async false

namespace Sys2Proof.Machine

variable {s t : State} {i : SpoutId} {p : Spout} {l : LaneId} {sample : Option (Nat × HeadStatus)}

/-! ### A missing sample that is filled -/

/-- R5, R6: a missing sample that leaves the run at 4 or less is filled and handed on. -/
theorem missingSample_of_short (h : (s.spout i).chan.missingRun ≤ 3) : missingSample l i s = handOn i none
    ((s.updLane l fun e => { e with gap := e.gap.bump }).upd i fun p => p.countMissed.abandonStep.workFill) := by
  have hcount : countMissing l i s =
      (s.updLane l fun e => { e with gap := e.gap.bump }).upd i fun p => p.countMissed.abandonStep := upd_upd _ _ _ _
  have hrun : ((countMissing l i s).spout i).chan.missingRun ≤ 4 := by
    rw [hcount, spout_upd_same, abandonStep_chan]
    simp only [Spout.countMissed, updLane_spout]
    omega
  rw [missingSample, if_pos hrun, hcount, upd_upd]

theorem countMissed_of_short (h : p.chan.missingRun ≤ 3) :
    p.countMissed = { p with chan := { p.chan with missingRun := p.chan.missingRun + 1 } } := by
  rw [Spout.countMissed, Nat.min_eq_right (by omega)]

theorem workFill_shut (h : p.ctl.state.compartmentOpen = false) :
    p.workFill = { p with chan := p.chan.enterWindow p.chan.lastGood } := by
  rw [Spout.workFill, meter_shut h, h, Bool.or_false]

theorem workFill_open (h : p.ctl.state.compartmentOpen = true) : p.workFill =
    { p with chan := { (p.chan.enterWindow p.chan.lastGood).integrate p.chan.lastGood with fillMark := true } } := by
  rw [Spout.workFill, meter_open h, h, Bool.or_true]

theorem spout_abandonStep_of_none (h : p.zero.step = none) : p.abandonStep = p := by rw [Spout.abandonStep, h]

/-- R5, R6: without a step to abandon, a filled sample counts and enters the window. -/
theorem filled_of_none (hrun : p.chan.missingRun ≤ 3) (hs : p.zero.step = none) : p.countMissed.abandonStep.workFill =
    ({ p with chan := { p.chan with missingRun := p.chan.missingRun + 1 } } : Spout).workFill := by
  rw [spout_abandonStep_of_none (by exact hs), countMissed_of_short hrun]

/-! ### A sample of a parked spout -/

theorem afterController_of_parked (h : p.ctl.state = .parked) (reached : Bool) (gate : Nat) : p.afterController reached gate =
    { p with
      gatePending := p.gatePending || 7 ≤ p.ctl.pacing
      ctl := { p.ctl with pacing := if 7 ≤ p.ctl.pacing then 0 else p.ctl.pacing + 1, stuckRun := 0 } } := by
  have hshut : ¬ p.ctl.state.compartmentOpen = true := by simp [h, SpoutState.compartmentOpen]
  have hgate : p.ctl.state.gateOpen = false := by simp [h, SpoutState.gateOpen]
  have htail : p.ctl.state ≠ .tailing := by simp [h]
  have hair : ¬ p.ctl.state = .awaitAir := by simp [h]
  have hexempt : p.ctl.state ∈ [SpoutState.parked, .coarse, .fine, .faulted] ∨ gate ≤ 50 := .inl (by simp [h])
  simp only [Spout.afterController, if_neg hshut, if_pos hgate, if_neg (show ¬ p.ctl.state = .tailing from htail), if_pos htail,
    if_neg hair, if_pos hexempt]

theorem parked_stays (h : (s.spout i).ctl.state = .parked) : s.controllerStays i := by
  refine ⟨⟨fun ho => ?_, fun ht => ?_⟩, fun _ => ⟨fun hc => ?_, fun hf => ?_⟩, fun ho => ?_, fun ha => ?_, .inl (by simp [h])⟩
  · simp [h, SpoutState.gateOpen] at ho
  · simp [h] at ht
  · simp [h] at hc
  · simp [h] at hf
  · simp [h, SpoutState.gateOpen] at ho
  · simp [h] at ha

/-- R20: a sample of a parked spout without a step and a retry wait. -/
theorem handOn_parked (h : (s.spout i).ctl.state = .parked) (hs : (s.spout i).zero.step = none)
    (hw : (s.spout i).zero.retryWait = none) : handOn i sample s = s.upd i fun p =>
      { p with
        gatePending := p.gatePending || 7 ≤ p.ctl.pacing
        reportDue := p.reportDue || p.par.reportInterval ≤ p.reportCount + 1
        reportCount := if p.par.reportInterval ≤ p.reportCount + 1 then 0 else p.reportCount + 1
        ctl := { p.ctl with pacing := if 7 ≤ p.ctl.pacing then 0 else p.ctl.pacing + 1, stuckRun := 0 } } := by
  have hd : (s.spout i).dueReached = false := Bool.eq_false_iff.mpr fun hd => (dueReached_iff.mp hd).1 h
  have hwait : (s.spout i).zero.retryWait.map (fun n => n - 1) = (s.spout i).zero.retryWait := by rw [hw]; rfl
  rw [handOn_stays (parked_stays h) hd (by simp [hw]) hs]
  refine upd_congr s i ?_
  rw [afterController_of_parked h]
  simp only [Spout.afterReport, Spout.afterRetry, Spout.afterDue, if_pos h, hwait]

/-! ### What a cutoff leaves -/

/-- R67, R86: a record stands in TAILING as `a` left it, but for the counts that a tail does not read. -/
structure Spout.TailsLike (a q : Spout) : Prop where
  state : a.ctl.state = .tailing
  ctl : q.ctl = { a.ctl with pacing := q.ctl.pacing, stuckRun := q.ctl.stuckRun }
  place : q.place = a.place
  chan : q.chan = a.chan
  queue : q.queue = a.queue
  ring : q.ring = a.ring
  gatePending : q.gatePending = true
  reportDue : q.reportDue = true

namespace Spout.TailsLike

variable {a q : Spout}

theorem tailing (h : a.TailsLike q) : q.ctl.state = .tailing := by rw [h.ctl]; exact h.state

theorem examineZeroing (h : a.TailsLike q) : a.TailsLike q.examineZeroing := by
  rw [examineZeroing_of_not_due fun hd => by
    obtain ⟨hst, -, -⟩ := zeroingDue_iff.mp hd
    simp [h.tailing] at hst]
  exact h

theorem countPacing (h : a.TailsLike q) : a.TailsLike q.countPacing := by
  by_cases hp : 7 ≤ q.ctl.pacing
  · rw [countPacing_of_point hp, pace_of_shut (by rw [h.tailing]; rfl)]
    exact ⟨h.state, by dsimp only; rw [h.ctl], h.place, h.chan, h.queue, h.ring, rfl, h.reportDue⟩
  · rw [countPacing_of_short (Nat.not_le.mp hp)]
    exact ⟨h.state, by dsimp only; rw [h.ctl], h.place, h.chan, h.queue, h.ring, h.gatePending, h.reportDue⟩

theorem tickStuck (h : a.TailsLike q) (b : Bool) : a.TailsLike (q.tickStuck b) :=
  ⟨h.state, by dsimp only [Spout.tickStuck]; rw [h.ctl], h.place, h.chan, h.queue, h.ring, h.gatePending, h.reportDue⟩

/-- R38, R46: the zero tracker's counts are no part of a tail. -/
theorem setZero (h : a.TailsLike q) (z : ZeroTracker) : a.TailsLike { q with zero := z } :=
  ⟨h.state, h.ctl, h.place, h.chan, h.queue, h.ring, h.gatePending, h.reportDue⟩

theorem raise (h : a.TailsLike q) (k : AlertKind) (d : Nat) : a.TailsLike (q.raise k d) :=
  ⟨h.state, h.ctl, h.place, h.chan, h.queue, h.ring, h.gatePending, h.reportDue⟩

theorem countReport (h : a.TailsLike q) : a.TailsLike q.countReport := by
  rw [countReport_eq]
  split
  · exact ⟨h.state, h.ctl, h.place, h.chan, h.queue, h.ring, h.gatePending, rfl⟩
  · exact ⟨h.state, h.ctl, h.place, h.chan, h.queue, h.ring, h.gatePending, h.reportDue⟩

end Spout.TailsLike

section
variable {a : Spout} (h : a.TailsLike (t.spout i))
include h

theorem tailsLike_countDue : a.TailsLike ((countDue i t).spout i) := by
  by_cases hd : (t.spout i).dueReached = true
  · rw [countDue_of_due hd]
    by_cases ho : (t.spout i).zero.owed = 7
    · rw [duePoint_of_seven ho, spout_upd_same]
      exact ((h.setZero _).raise _ _).examineZeroing
    · rw [duePoint_of_ne_seven ho, spout_upd_same]
      exact (h.setZero _).examineZeroing
  · rw [countDue_of_short (by simp [h.tailing]) (Bool.eq_false_iff.mpr hd), spout_upd_same]
    exact h.setZero _

theorem tailsLike_retryIf (waiting : Bool) : a.TailsLike ((retryIf i waiting t).spout i) := by
  unfold retryIf
  split
  · unfold countRetry
    split
    · rw [endRetryWait_eq, spout_upd_same]
      exact (h.setZero _).examineZeroing
    · rw [spout_upd_same]
      exact h.setZero _
  · exact h

/-- R20: without a step that was in progress before the sample, the zero tracker only counts. -/
theorem tailsLike_zeroSample (waiting : Bool) : a.TailsLike ((zeroSample i sample false waiting t).spout i) := by
  have hno : ¬ ((t.spout i).dueReached = true ∧ t.sampleCompletes i sample false = true) := fun hx => by
    have hc := hx.2
    cases sample <;> simp [State.sampleCompletes] at hc
  have hstep : ∀ u : State, stepIf i sample false u = u := fun u => if_neg (by simp)
  rw [zeroSample, dueAndStep_of_not_both hno, hstep]
  exact tailsLike_retryIf (tailsLike_countDue h) waiting

/-- R99, R112: the checks after the cutoff's count only the pacing point and the stuck gate, short of its end. -/
theorem tailsLike_laterChecks (hrun : (t.spout i).ctl.stuckRun < 1199) :
    a.TailsLike ((countStuck i (pressureCheck i (airCheck i ((floodCheck i t).upd i Spout.countPacing)))).spout i) := by
  have hflood : floodCheck i t = t := if_neg (by rw [h.tailing]; decide)
  have hpaced : a.TailsLike ((t.upd i Spout.countPacing).spout i) := by
    rw [spout_upd_same]
    exact h.countPacing
  have hair : airCheck i (t.upd i Spout.countPacing) = t.upd i Spout.countPacing := if_neg (by rw [hpaced.tailing]; decide)
  have hwait : pressureCheck i (t.upd i Spout.countPacing) = t.upd i Spout.countPacing := if_neg (by rw [hpaced.tailing]; decide)
  have hstuck : ((t.upd i Spout.countPacing).spout i).ctl.stuckRun = (t.spout i).ctl.stuckRun := by
    rw [spout_upd_same]
    by_cases hp : 7 ≤ (t.spout i).ctl.pacing
    · rw [countPacing_of_point hp, pace_of_shut (by rw [h.tailing]; rfl)]
    · rw [countPacing_of_short (Nat.not_le.mp hp)]
  rw [hflood, hair, hwait, countStuck, if_neg fun hr => by
    obtain ⟨-, -, hle⟩ := stuckReached_iff.mp hr
    omega, spout_upd_same]
  exact hpaced.tickStuck _

end

/-- R67, R86, R105, R142: the record of a spout at its cutoff, with the duration and the pressure wait left open. -/
def Spout.cutOff (p : Spout) (duration : Nat) (wait : Option Nat) : Spout :=
  { p with
    place := .neither, gatePending := true, reportDue := true
    ctl := { p.ctl with
      state := .tailing, heldReason := none, endReason := some .normal, duration := duration
      gateDemand := 0, sentDemand := 0, floodRun := 0, airLostRun := 0, pressureWait := wait
      massAtClose := p.chan.massG, flowAtClose := p.chan.filtered, tailAge := 0, settleRun := 0 } }

theorem becomeTailing_cutOff (h : p.ctl.state.gateOpen = true) :
    ∃ d w, p.countDuration.shutGate.giveUpAir.becomeTailing .normal = p.cutOff d w := by
  have hopen : p.countDuration.ctl.state.gateOpen = true := by rw [countDuration_eq]; exact h
  have hpending : p.countDuration.orderOnRelease = true := by simp [Spout.orderOnRelease, hopen]
  refine ⟨p.countDuration.ctl.duration, p.countDuration.waitOnRelease, ?_⟩
  rw [giveUpAir_shutGate, hpending, Control.shut, if_pos hopen, countDuration_eq]
  rfl

/-- R82: a sample handed on whose prediction reaches the target leaves the record of the cutoff to the later checks. -/
theorem handOn_cutoff (hst : (s.spout i).ctl.state.gateOpen = true) (hs : (s.spout i).zero.step = none)
    (hrun : (s.spout i).ctl.stuckRun = 0) (hcut : (s.spout i).cutoffReached = true) :
    ∃ d w, ((s.spout i).cutOff d w).TailsLike ((handOn i sample s).spout i) := by
  obtain ⟨d, w, hrecord⟩ := becomeTailing_cutOff hst
  have htail : tailCheck i (s.upd i Spout.countDuration) = enterTailing .normal i (s.upd i Spout.countDuration) := by
    rw [tailCheck, spout_upd_same, if_pos (by rw [countDuration_eq]; exact hst), cutoffTests, spout_upd_same,
      if_pos (by rw [countDuration_eq]; exact hcut)]
  have hspout : (enterTailing .normal i (s.upd i Spout.countDuration)).spout i = (s.spout i).cutOff d w := by
    rw [enterTailing_spout, spout_upd_same, hrecord]
  have hfirst : ((s.spout i).cutOff d w).TailsLike ((enterTailing .normal i (s.upd i Spout.countDuration)).spout i) := by
    rw [hspout]
    exact ⟨rfl, rfl, rfl, rfl, rfl, rfl, rfl, rfl⟩
  refine ⟨d, w, ?_⟩
  rw [handOn, hs, spout_upd_same]
  refine Spout.TailsLike.countReport (tailsLike_zeroSample ?_ _)
  rw [controllerSample_eq, htail]
  exact tailsLike_laterChecks hfirst (by rw [hspout]; exact hrun.trans_lt (by decide))

end Sys2Proof.Machine

namespace Sys2Proof.Settled

open Sys2Proof.Machine

/-- Settles O33: the sequence distance, the missing samples one at a time, and a parked spout's sample. -/
theorem missingForceSamples : Obligations.MissingForceSamples := by
  refine ⟨⟨fun s l i seq hs v => ?_, fun s l i n => rfl, fun s l i hrun hs => ?_, fun s l i st hrun hst hs => ?_⟩,
    fun s l i hrun => ?_, fun s i sample => ?_⟩
  · intro p accepted
    refine ⟨deliverForce_duplicate, fun last hl hne hh => ?_, fun last hl hne => ?_, fun hl hh => ?_, fun hl => ?_⟩
    · have hdup : (s.spout i).chan.lastSeq ≠ some seq := fun hx => hne (Option.some.inj (hl.symm.trans hx))
      rw [deliverForce_good hdup hh, show (s.spout i).chan.lastSeq = some last from hl]
      rfl
    · have hdup : (s.spout i).chan.lastSeq ≠ some seq := fun hx => hne (Option.some.inj (hl.symm.trans hx))
      rw [deliverForce_fault hdup, show (s.spout i).chan.lastSeq = some last from hl]
      exact missingSamples_of_gap hne _
    · have hl' : (s.spout i).chan.lastSeq = none := hl
      rw [deliverForce_good (by simp [hl']) hh, hl']
      rfl
    · have hl' : (s.spout i).chan.lastSeq = none := hl
      rw [deliverForce_fault (by simp [hl']), hl']
      rfl
  · intro p window filled acc counted
    have hfill := filled_of_none hrun hs
    refine ⟨fun ho => ?_, fun ho hacc => ?_, fun ho hacc => ?_⟩ <;> rw [missingSample_of_short hrun] <;>
      refine congrArg (handOn i none) (upd_congr counted i ?_) <;> refine hfill.trans ?_
    · rw [workFill_shut (by exact ho)]
      rfl
    · rw [workFill_open (by exact ho), integrate_of_le (by exact hacc)]
      rfl
    · rw [workFill_open (by exact ho), integrate_of_gt (by exact hacc)]
      rfl
  · intro p window
    rw [missingSample_of_short hrun]
    refine congrArg (handOn i none) (upd_congr _ i ?_)
    refine Eq.trans (b := (s.spout i).countMissed.abandonStep.workFill) rfl ?_
    rw [countMissed_of_short hrun, abandonStep_of_some (by exact hs), workFill_shut (by cases st.origin <;> rfl)]
    rfl
  · intro counted
    refine ⟨fun ho hs => ?_, fun ho => ?_⟩ <;> rw [missingSample_of_long hrun]
    · rw [countMissing, abandonStep_of_none (by simpa [Spout.countMissed] using hs),
        loseSample_of_open (by simpa [Spout.countMissed] using ho)]
      rfl
    · rw [countMissing, loseSample_of_shut (by
        simpa only [abandonStep, spout_upd_same] using abandonStep_shut (by simpa [Spout.countMissed] using ho))]
      rfl
  · intro p hst hs hw
    exact handOn_parked hst hs hw

/-- Settles O35: the two tests of a sample, and the record that a cutoff leaves to the later checks. -/
theorem cutoffShutsGate : Obligations.CutoffShutsGate := by
  refine ⟨fun s i c => ?_, fun s i c sample => ?_⟩
  · intro p predicted target hc
    have hcut : p.cutoffReached = true ↔ target ≤ predicted := cutoffReached_iff hc
    have hband : p.inFineBand = true ↔ target - predicted ≤ p.par.fineBand * 1000 := inFineBand_iff hc
    refine ⟨fun hle => ?_, fun hlt hst hle => ?_, fun hlt hno => ?_⟩
    · rw [cutoffTests, if_pos (hcut.mpr hle)]
    · rw [cutoffTests, if_neg (mt hcut.mp (Nat.not_le.mpr hlt)), if_pos ⟨hst, hband.mpr hle⟩]
      rfl
    · rw [cutoffTests, if_neg (mt hcut.mp (Nat.not_le.mpr hlt)), if_neg fun hx => ?_]
      exact hno.elim (fun h => h hx.1) fun h => absurd (hband.mp hx.2) (Nat.not_le.mpr h)
  · intro p hrecord hruns hst hc hle q
    have hopen : p.ctl.state.gateOpen = true := gateOpen_iff.mpr hst
    have hstep : p.zero.step = none := stepSound_none hrecord.1 (by rintro he; rw [he] at hst; simp at hst)
    have hstuck : p.ctl.stuckRun = 0 := by
      obtain ⟨-, -, -, -, -, -, -, -, -, hexempt, -⟩ := hruns
      exact hexempt (stuckExempt_iff.mpr (hst.elim (fun h => .inr (.inl h)) fun h => .inr (.inr (.inl h))))
    obtain ⟨d, w, htails⟩ := handOn_cutoff (sample := sample) hopen hstep hstuck ((cutoffReached_iff hc).mpr hle)
    have hctl : q.ctl = { (p.cutOff d w).ctl with pacing := q.ctl.pacing, stuckRun := q.ctl.stuckRun } := htails.ctl
    rw [hctl]
    exact ⟨rfl, rfl, hc, htails.place, rfl, rfl, rfl, rfl, rfl, rfl, rfl, rfl, htails.gatePending, htails.reportDue, htails.chan,
      htails.queue, htails.ring⟩

end Sys2Proof.Settled
end
